-- ==== Sys2Proof/Machine/Params.lean ====
section
/-! DEFINITION. The parameters that R8 calls fixed, by name, because R19 wants each literal of the document named. The
bit-vector types keep literal widths; Sys2Proof/Laws/Params.lean shows that they are the widths named here. -/

namespace Sys2Proof

/-- `W` (R8): width of a FixedPoint value. -/
abbrev fxWidth : Nat := 32

/-- `FB_BITS` (R8): fractional bits of a FixedPoint value. -/
abbrev fracBits : Nat := 16

/-- `NOPS` (R8): operators per voice. -/
abbrev nOps : Nat := 4

/-- `NALG` (R8): algorithms in the route table. -/
abbrev nAlg : Nat := 8

/-- `NWAVE` (R8): waveform shapes. -/
abbrev nWave : Nat := 8

/-- `SIN_N` (R8): entries of the sine table, 1024 and the guard. -/
abbrev sinN : Nat := 1025

/-- `EXP_N` (R8): entries of the exponential table. -/
abbrev expN : Nat := 1025

/-- `ROM_W` (R8): width of a table entry. -/
abbrev romWidth : Nat := 16

/-- `LERP_BITS` (R8): bits of an interpolation fraction. -/
abbrev lerpBits : Nat := 4

/-- `SEARCH_ITERS` (R8): halvings of the curve-matching search. -/
abbrev searchIters : Nat := 8

/-- `SAMPLE_RATE` (R8), in Hz: a contract with the host (R346); `LOG2_FS` is its logarithm (R175). -/
abbrev sampleRate : Nat := 48000

/-- The largest total level and feedback depth (R19, R241). -/
abbrev levelMax : Nat := 255

end Sys2Proof
end

