-- ==== Sys2Proof/Word.lean ====
section
/-! DEFINITION. The value types of rule R11 (00_scope.md) and the one narrowing of rule R12. -/

namespace Sys2Proof

/-- `fx` (R11, R120): a Q16.16 value. The 32 bits are a two's-complement integer `raw`, standing for `raw / 65536`.
`sext_32(v)` of the rules is `BitVec.toInt v`, `zext_32(v)` is `BitVec.toNat v`. -/
abbrev Fx := BitVec 32

/-- `u16` (R11): a ROM entry, a phase, the phase accumulator, the envelope divider and its counter. -/
abbrev U16 := BitVec 16

/-- `s32(n)` (R12): the 32-bit value congruent to the integer `n` modulo 2^32. -/
def s32 (n : Int) : Fx := BitVec.ofInt 32 n

/-- `n >>a k` (R12): arithmetic shift right of an integer, floor(n / 2^k). -/
def asr (n : Int) (k : Nat) : Int := n >>> k

end Sys2Proof
end

