-- ==== Sys2Proof/Config.lean ====
section
/-! DEFINITION. The implementation parameters of rule R8 (00_scope.md) that the spec leaves open and gives a
reference value or a default: the datapath takes them as one argument. Their reference values stand in
Sys2Proof/Machine/Rom.lean and Sys2Proof/Machine/Reference.lean. The fixed parameters of R8 stand in
Sys2Proof/Machine/Params.lean. -/

namespace Sys2Proof

/-- The overflow policies that U1 (93_implementation_defined.md) lets a model choose from. -/
inductive Overflow where
  /-- every result is reduced modulo 2^32 (D5, R307) -/
  | wrap
  /-- a wrapping ADD, SUB or MUL is a fault of the model -/
  | fault
deriving DecidableEq, Repr

/-- The open parameters of R8 (U1, U8 and U9 of 93_implementation_defined.md). The index types are exactly the address
ranges of R60 and R62, so a `RomRead` out of range cannot be written. -/
structure Config where
  /-- `SIN_ROM` (R60, R64): entries of 16 bits. -/
  sinRom : Fin sinN → U16
  /-- `EXP_ROM` (R60, R67): entries of 16 bits. -/
  expRom : Fin expN → U16
  /-- `ALG_ROM` (R60, R70): 8 entries of 16 bits, addressed by the 3-bit register `ALG`. -/
  algRom : BitVec 3 → U16
  /-- `LOG2_FS` (R175): log2 of the sample rate. -/
  log2Fs : Fx
  /-- `ENV_START` (R185): the curve index an envelope starts from. -/
  envStart : Fx
  /-- `ENV_FLOOR` (R185): the curve index that ends a phase. -/
  envFloor : Fx
  /-- `ENV_UPPER` (R185): upper offset of the Attack curve. -/
  envUpper : Fx
  /-- `ENV_LOWER` (R185): lower offset of the Decay and Release curve. -/
  envLower : Fx
  /-- `SCALE8` (R241, U9): an 8-bit level as a gain. -/
  scale8 : BitVec 8 → Fx
  /-- `OVF` (R8, U1): what a wrapping ADD, SUB or MUL does. -/
  ovf : Overflow

end Sys2Proof
end

