-- ==== Sys2Proof/Machine/AluOps.lean ====
section
/-! DEFINITION. The eleven ALU functions (R121, R124 to R133) as the integer pseudocode of 40_q16_alu.md, and the
derived functions of R106 and R134. -/

namespace Sys2Proof.Machine

/-- ADD (R124): wraps modulo 2^32. -/
def fxAdd (a b : Fx) : Fx := s32 (a.toInt + b.toInt)

/-- SUB (R125): wraps modulo 2^32. -/
def fxSub (a b : Fx) : Fx := s32 (a.toInt - b.toInt)

/-- MUL (R126): the exact product shifted right by 16, floored, low 32 bits. -/
def fxMul (a b : Fx) : Fx := s32 (asr (a.toInt * b.toInt) fracBits)

/-- MULI (R127): `k` is a plain signed integer; no rescale. -/
def fxMuli (a k : BitVec 32) : Fx := s32 (a.toInt * k.toInt)

/-- The shift amount `b[4:0]` of SHL and SHR (R128, R129). -/
def shiftAmount (b : Fx) : Nat := (b.extractLsb' 0 5).toNat

/-- SHL (R128): bits shifted out are lost. -/
def fxShl (a b : Fx) : Fx := s32 (a.toInt <<< shiftAmount b)

/-- SHR (R129): arithmetic, rounds toward negative infinity. -/
def fxShr (a b : Fx) : Fx := s32 (asr a.toInt (shiftAmount b))

/-- AND (R130), on the 32-bit patterns. -/
def fxAnd (a b : Fx) : Fx := a &&& b

/-- FRAC (R131): the low 16 bits. -/
def fxFrac (a : Fx) : Fx := a &&& 0x0000FFFF

/-- FROMI (R121): `k` is a plain signed integer; times 65536, wrapped. -/
def fxFromi (k : BitVec 32) : Fx := s32 (k.toInt <<< fracBits)

/-- EQ (R132): equality of the bit patterns. -/
def fxEq (a b : Fx) : Bool := decide (a = b)

/-- LT (R133): signed order of the raw integers. -/
def fxLt (a b : Fx) : Bool := decide (a.toInt < b.toInt)

/-- NEG(a) = SUB(0, a) (R106, R134). -/
def fxNeg (a : Fx) : Fx := fxSub 0 a

/-- NE (R106). -/
def fxNe (a b : Fx) : Bool := !fxEq a b

/-- LE (R106). -/
def fxLe (a b : Fx) : Bool := fxLt a b || fxEq a b

/-- GE (R106). -/
def fxGe (a b : Fx) : Bool := !fxLt a b

/-- GT (R106). -/
def fxGt (a b : Fx) : Bool := fxLt b a

/-- MOD1(a) = FRAC(a) (R106). -/
def fxMod1 (a : Fx) : Fx := fxFrac a

/-- HALF(a) = SHR(a, 1) (R106). -/
def fxHalf (a : Fx) : Fx := fxShr a 1

/-- `ONE` (R8, R120): 1.0. -/
def fxOne : Fx := 0x00010000

/-! Where an operation wraps (U1): the exact result is no value of `fx`. -/

/-- The integer is a value of `fx`. -/
def fits (n : Int) : Bool := decide (-2147483648 ≤ n) && decide (n < 2147483648)

/-- ADD wraps. -/
def addWraps (a b : Fx) : Bool := !fits (a.toInt + b.toInt)

/-- SUB wraps. -/
def subWraps (a b : Fx) : Bool := !fits (a.toInt - b.toInt)

/-- MUL wraps. -/
def mulWraps (a b : Fx) : Bool := !fits (asr (a.toInt * b.toInt) 16)

end Sys2Proof.Machine
end

