-- ==== Sys2Proof/Machine/Lookup.lean ====
section
/-! DEFINITION. The interpolated lookups of 41_lut_interpolators.md: LERP16 (R150), SINQ (R151), EXP2 (R154). -/

namespace Sys2Proof.Machine

/-- LERP16 (R150). -/
def lerp16 (e0 e1 : U16) (f : BitVec 4) : U16 :=
  BitVec.ofNat romWidth ((e0.toNat * (2 ^ lerpBits - f.toNat) + e1.toNat * f.toNat) >>> lerpBits)

/-- SINQ (R151). The argument is a position in a quarter period, 0 to 16384 inclusive; a larger one cannot be written
(R152, U3). With fraction 0 the right neighbour is not read. -/
def sinq (c : Config) (a : Fin 16385) : U16 :=
  if h : a.val % 2 ^ lerpBits = 0 then c.sinRom ⟨a.val / 2 ^ lerpBits, by show a.val / 16 < 1025; omega⟩
  else
    lerp16 (c.sinRom ⟨a.val / 2 ^ lerpBits, by show a.val / 16 < 1025; omega⟩)
      (c.sinRom ⟨a.val / 2 ^ lerpBits + 1, by
        have hf : ¬ a.val % 16 = 0 := h
        show a.val / 16 + 1 < 1025
        omega⟩)
      (BitVec.ofNat lerpBits (a.val % 2 ^ lerpBits))

/-- The integer part `n` of EXP2's argument: floor of the real value (R154). -/
def exp2Int (x : Fx) : Int := asr x.toInt fracBits

/-- The fraction `F` of EXP2's argument (R154). -/
def exp2Frac (x : Fx) : U16 := x.extractLsb' 0 fracBits

/-- The mantissa `m` of EXP2, 65536 to 131071, from the fraction: index `F[15:6]`, interpolation `F[5:2]`, the two
lowest bits dropped (R154, R155). -/
def exp2Mantissa (c : Config) (frac : U16) : Nat :=
  2 ^ fracBits + (lerp16 (c.expRom ⟨(frac.extractLsb' 6 10).toNat, by show _ < 1025; omega⟩)
    (c.expRom ⟨(frac.extractLsb' 6 10).toNat + 1, by show _ < 1025; omega⟩) (frac.extractLsb' 2 lerpBits)).toNat

/-- The final power-of-two scaling of EXP2 and its limits (R154, R156). -/
def exp2Scale (n : Int) (m : Nat) : Fx :=
  if 0 ≤ n then
    if (fxWidth : Int) ≤ n then 0 else s32 ((m <<< n.toNat : Nat) : Int)
  else
    if (fracBits : Int) + 1 ≤ -n then 0 else s32 ((m >>> (-n).toNat : Nat) : Int)

/-- EXP2 (R154): total on every 32-bit argument (R155). -/
def exp2 (c : Config) (x : Fx) : Fx := exp2Scale (exp2Int x) (exp2Mantissa c (exp2Frac x))

end Sys2Proof.Machine
end

