-- ==== Sys2Proof/Machine/Rom.lean ====
section
/-! DEFINITION. Reference contents of the three ROMs, copied from R66, R68 and R70 (20_memory.md) line by line: 16
entries a row, as the spec prints them. All three are the spec's own reference choice (D10, D11, D24). -/

namespace Sys2Proof.Machine

/-- `SIN_ROM` (R66), entries 0 to 127. -/
def sinRows0 : List (List Nat) := [
  [0, 101, 201, 302, 402, 503, 603, 704, 804, 905, 1005, 1106, 1206, 1307, 1407, 1508],
  [1608, 1709, 1809, 1910, 2010, 2111, 2211, 2312, 2412, 2513, 2613, 2714, 2814, 2914, 3015, 3115],
  [3216, 3316, 3417, 3517, 3617, 3718, 3818, 3918, 4019, 4119, 4219, 4320, 4420, 4520, 4621, 4721],
  [4821, 4921, 5022, 5122, 5222, 5322, 5422, 5523, 5623, 5723, 5823, 5923, 6023, 6123, 6224, 6324],
  [6424, 6524, 6624, 6724, 6824, 6924, 7024, 7124, 7224, 7323, 7423, 7523, 7623, 7723, 7823, 7923],
  [8022, 8122, 8222, 8322, 8421, 8521, 8621, 8720, 8820, 8919, 9019, 9119, 9218, 9318, 9417, 9517],
  [9616, 9716, 9815, 9914, 10014, 10113, 10212, 10312, 10411, 10510, 10609, 10709, 10808, 10907, 11006, 11105],
  [11204, 11303, 11402, 11501, 11600, 11699, 11798, 11897, 11996, 12095, 12193, 12292, 12391, 12490, 12588, 12687]]

/-- `SIN_ROM` (R66), entries 128 to 255. -/
def sinRows1 : List (List Nat) := [
  [12785, 12884, 12983, 13081, 13180, 13278, 13376, 13475, 13573, 13672, 13770, 13868, 13966, 14065, 14163, 14261],
  [14359, 14457, 14555, 14653, 14751, 14849, 14947, 15045, 15143, 15240, 15338, 15436, 15534, 15631, 15729, 15826],
  [15924, 16021, 16119, 16216, 16314, 16411, 16508, 16606, 16703, 16800, 16897, 16994, 17091, 17188, 17285, 17382],
  [17479, 17576, 17673, 17770, 17867, 17963, 18060, 18156, 18253, 18350, 18446, 18543, 18639, 18735, 18832, 18928],
  [19024, 19120, 19216, 19313, 19409, 19505, 19600, 19696, 19792, 19888, 19984, 20080, 20175, 20271, 20366, 20462],
  [20557, 20653, 20748, 20844, 20939, 21034, 21129, 21224, 21320, 21415, 21510, 21604, 21699, 21794, 21889, 21984],
  [22078, 22173, 22268, 22362, 22457, 22551, 22645, 22740, 22834, 22928, 23022, 23116, 23210, 23304, 23398, 23492],
  [23586, 23680, 23774, 23867, 23961, 24054, 24148, 24241, 24335, 24428, 24521, 24614, 24708, 24801, 24894, 24987]]

/-- `SIN_ROM` (R66), entries 256 to 383. -/
def sinRows2 : List (List Nat) := [
  [25080, 25172, 25265, 25358, 25451, 25543, 25636, 25728, 25821, 25913, 26005, 26098, 26190, 26282, 26374, 26466],
  [26558, 26650, 26742, 26833, 26925, 27017, 27108, 27200, 27291, 27382, 27474, 27565, 27656, 27747, 27838, 27929],
  [28020, 28111, 28202, 28293, 28383, 28474, 28564, 28655, 28745, 28835, 28926, 29016, 29106, 29196, 29286, 29376],
  [29466, 29555, 29645, 29735, 29824, 29914, 30003, 30093, 30182, 30271, 30360, 30449, 30538, 30627, 30716, 30805],
  [30893, 30982, 31071, 31159, 31248, 31336, 31424, 31512, 31600, 31688, 31776, 31864, 31952, 32040, 32127, 32215],
  [32303, 32390, 32477, 32565, 32652, 32739, 32826, 32913, 33000, 33087, 33173, 33260, 33347, 33433, 33520, 33606],
  [33692, 33778, 33865, 33951, 34037, 34122, 34208, 34294, 34380, 34465, 34551, 34636, 34721, 34806, 34892, 34977],
  [35062, 35146, 35231, 35316, 35401, 35485, 35570, 35654, 35738, 35823, 35907, 35991, 36075, 36159, 36243, 36326]]

/-- `SIN_ROM` (R66), entries 384 to 511. -/
def sinRows3 : List (List Nat) := [
  [36410, 36493, 36577, 36660, 36744, 36827, 36910, 36993, 37076, 37159, 37241, 37324, 37407, 37489, 37572, 37654],
  [37736, 37818, 37900, 37982, 38064, 38146, 38228, 38309, 38391, 38472, 38554, 38635, 38716, 38797, 38878, 38959],
  [39040, 39120, 39201, 39282, 39362, 39442, 39523, 39603, 39683, 39763, 39843, 39922, 40002, 40082, 40161, 40241],
  [40320, 40399, 40478, 40557, 40636, 40715, 40794, 40872, 40951, 41029, 41108, 41186, 41264, 41342, 41420, 41498],
  [41576, 41653, 41731, 41808, 41886, 41963, 42040, 42117, 42194, 42271, 42348, 42424, 42501, 42578, 42654, 42730],
  [42806, 42882, 42958, 43034, 43110, 43186, 43261, 43337, 43412, 43487, 43562, 43638, 43713, 43787, 43862, 43937],
  [44011, 44086, 44160, 44234, 44308, 44382, 44456, 44530, 44604, 44677, 44751, 44824, 44898, 44971, 45044, 45117],
  [45190, 45262, 45335, 45408, 45480, 45552, 45625, 45697, 45769, 45841, 45912, 45984, 46056, 46127, 46199, 46270]]

/-- `SIN_ROM` (R66), entries 512 to 639. -/
def sinRows4 : List (List Nat) := [
  [46341, 46412, 46483, 46554, 46624, 46695, 46765, 46836, 46906, 46976, 47046, 47116, 47186, 47256, 47325, 47395],
  [47464, 47534, 47603, 47672, 47741, 47809, 47878, 47947, 48015, 48084, 48152, 48220, 48288, 48356, 48424, 48491],
  [48559, 48626, 48694, 48761, 48828, 48895, 48962, 49029, 49095, 49162, 49228, 49295, 49361, 49427, 49493, 49559],
  [49624, 49690, 49756, 49821, 49886, 49951, 50016, 50081, 50146, 50211, 50275, 50340, 50404, 50468, 50532, 50596],
  [50660, 50724, 50787, 50851, 50914, 50977, 51041, 51104, 51166, 51229, 51292, 51354, 51417, 51479, 51541, 51603],
  [51665, 51727, 51789, 51850, 51911, 51973, 52034, 52095, 52156, 52217, 52277, 52338, 52398, 52459, 52519, 52579],
  [52639, 52699, 52759, 52818, 52878, 52937, 52996, 53055, 53114, 53173, 53232, 53290, 53349, 53407, 53465, 53523],
  [53581, 53639, 53697, 53754, 53812, 53869, 53926, 53983, 54040, 54097, 54154, 54210, 54267, 54323, 54379, 54435]]

/-- `SIN_ROM` (R66), entries 640 to 767. -/
def sinRows5 : List (List Nat) := [
  [54491, 54547, 54603, 54658, 54714, 54769, 54824, 54879, 54934, 54989, 55043, 55098, 55152, 55206, 55260, 55314],
  [55368, 55422, 55476, 55529, 55582, 55636, 55689, 55742, 55794, 55847, 55900, 55952, 56004, 56056, 56108, 56160],
  [56212, 56264, 56315, 56367, 56418, 56469, 56520, 56571, 56621, 56672, 56722, 56773, 56823, 56873, 56923, 56972],
  [57022, 57072, 57121, 57170, 57219, 57268, 57317, 57366, 57414, 57463, 57511, 57559, 57607, 57655, 57703, 57750],
  [57798, 57845, 57892, 57939, 57986, 58033, 58079, 58126, 58172, 58219, 58265, 58311, 58356, 58402, 58448, 58493],
  [58538, 58583, 58628, 58673, 58718, 58763, 58807, 58851, 58896, 58940, 58983, 59027, 59071, 59114, 59158, 59201],
  [59244, 59287, 59330, 59372, 59415, 59457, 59499, 59541, 59583, 59625, 59667, 59708, 59750, 59791, 59832, 59873],
  [59914, 59954, 59995, 60035, 60075, 60116, 60156, 60195, 60235, 60275, 60314, 60353, 60392, 60431, 60470, 60509]]

/-- `SIN_ROM` (R66), entries 768 to 895. -/
def sinRows6 : List (List Nat) := [
  [60547, 60586, 60624, 60662, 60700, 60738, 60776, 60813, 60851, 60888, 60925, 60962, 60999, 61035, 61072, 61108],
  [61145, 61181, 61217, 61253, 61288, 61324, 61359, 61394, 61429, 61464, 61499, 61534, 61568, 61603, 61637, 61671],
  [61705, 61739, 61772, 61806, 61839, 61873, 61906, 61939, 61971, 62004, 62036, 62069, 62101, 62133, 62165, 62197],
  [62228, 62260, 62291, 62322, 62353, 62384, 62415, 62445, 62476, 62506, 62536, 62566, 62596, 62626, 62655, 62685],
  [62714, 62743, 62772, 62801, 62830, 62858, 62886, 62915, 62943, 62971, 62998, 63026, 63054, 63081, 63108, 63135],
  [63162, 63189, 63215, 63242, 63268, 63294, 63320, 63346, 63372, 63397, 63423, 63448, 63473, 63498, 63523, 63547],
  [63572, 63596, 63621, 63645, 63668, 63692, 63716, 63739, 63763, 63786, 63809, 63832, 63854, 63877, 63899, 63922],
  [63944, 63966, 63987, 64009, 64031, 64052, 64073, 64094, 64115, 64136, 64156, 64177, 64197, 64217, 64237, 64257]]

/-- `SIN_ROM` (R66), entries 896 to 1023. -/
def sinRows7 : List (List Nat) := [
  [64277, 64296, 64316, 64335, 64354, 64373, 64392, 64410, 64429, 64447, 64465, 64483, 64501, 64519, 64536, 64554],
  [64571, 64588, 64605, 64622, 64639, 64655, 64672, 64688, 64704, 64720, 64735, 64751, 64766, 64782, 64797, 64812],
  [64827, 64841, 64856, 64870, 64884, 64899, 64912, 64926, 64940, 64953, 64967, 64980, 64993, 65006, 65018, 65031],
  [65043, 65055, 65067, 65079, 65091, 65103, 65114, 65126, 65137, 65148, 65159, 65169, 65180, 65190, 65200, 65210],
  [65220, 65230, 65240, 65249, 65259, 65268, 65277, 65286, 65294, 65303, 65311, 65320, 65328, 65336, 65343, 65351],
  [65358, 65366, 65373, 65380, 65387, 65393, 65400, 65406, 65413, 65419, 65425, 65430, 65436, 65442, 65447, 65452],
  [65457, 65462, 65467, 65471, 65476, 65480, 65484, 65488, 65492, 65495, 65499, 65502, 65505, 65508, 65511, 65514],
  [65516, 65519, 65521, 65523, 65525, 65527, 65528, 65530, 65531, 65532, 65533, 65534, 65535, 65535, 65535, 65535]]

/-- `SIN_ROM` (R66), entries 1024 to 1024. -/
def sinRows8 : List (List Nat) := [
  [65535]]

/-- `SIN_ROM` (R66): 65 rows, 1025 entries. -/
def sinRows : List (List Nat) :=
  sinRows0 ++ sinRows1 ++ sinRows2 ++ sinRows3 ++ sinRows4 ++ sinRows5 ++ sinRows6 ++ sinRows7 ++ sinRows8

/-- `EXP_ROM` (R68), entries 0 to 127. -/
def expRows0 : List (List Nat) := [
  [0, 44, 89, 133, 178, 222, 267, 311, 356, 400, 445, 490, 535, 579, 624, 669],
  [714, 758, 803, 848, 893, 938, 983, 1028, 1073, 1118, 1164, 1209, 1254, 1299, 1344, 1390],
  [1435, 1480, 1526, 1571, 1617, 1662, 1708, 1753, 1799, 1844, 1890, 1936, 1981, 2027, 2073, 2119],
  [2164, 2210, 2256, 2302, 2348, 2394, 2440, 2486, 2532, 2578, 2624, 2670, 2716, 2763, 2809, 2855],
  [2902, 2948, 2994, 3041, 3087, 3134, 3180, 3227, 3273, 3320, 3366, 3413, 3460, 3506, 3553, 3600],
  [3647, 3694, 3740, 3787, 3834, 3881, 3928, 3975, 4022, 4070, 4117, 4164, 4211, 4258, 4305, 4353],
  [4400, 4447, 4495, 4542, 4590, 4637, 4685, 4732, 4780, 4827, 4875, 4923, 4971, 5018, 5066, 5114],
  [5162, 5210, 5257, 5305, 5353, 5401, 5449, 5497, 5546, 5594, 5642, 5690, 5738, 5787, 5835, 5883]]

/-- `EXP_ROM` (R68), entries 128 to 255. -/
def expRows1 : List (List Nat) := [
  [5932, 5980, 6028, 6077, 6125, 6174, 6222, 6271, 6320, 6368, 6417, 6466, 6514, 6563, 6612, 6661],
  [6710, 6759, 6808, 6857, 6906, 6955, 7004, 7053, 7102, 7151, 7200, 7250, 7299, 7348, 7398, 7447],
  [7496, 7546, 7595, 7645, 7694, 7744, 7794, 7843, 7893, 7943, 7992, 8042, 8092, 8142, 8192, 8242],
  [8292, 8342, 8392, 8442, 8492, 8542, 8592, 8642, 8693, 8743, 8793, 8843, 8894, 8944, 8995, 9045],
  [9096, 9146, 9197, 9247, 9298, 9349, 9399, 9450, 9501, 9552, 9603, 9653, 9704, 9755, 9806, 9857],
  [9908, 9959, 10011, 10062, 10113, 10164, 10215, 10267, 10318, 10369, 10421, 10472, 10524, 10575, 10627, 10678],
  [10730, 10782, 10833, 10885, 10937, 10988, 11040, 11092, 11144, 11196, 11248, 11300, 11352, 11404, 11456, 11508],
  [11560, 11613, 11665, 11717, 11769, 11822, 11874, 11927, 11979, 12031, 12084, 12137, 12189, 12242, 12294, 12347]]

/-- `EXP_ROM` (R68), entries 256 to 383. -/
def expRows2 : List (List Nat) := [
  [12400, 12453, 12505, 12558, 12611, 12664, 12717, 12770, 12823, 12876, 12929, 12982, 13036, 13089, 13142, 13195],
  [13249, 13302, 13355, 13409, 13462, 13516, 13569, 13623, 13676, 13730, 13784, 13837, 13891, 13945, 13999, 14053],
  [14106, 14160, 14214, 14268, 14322, 14376, 14431, 14485, 14539, 14593, 14647, 14702, 14756, 14810, 14865, 14919],
  [14974, 15028, 15083, 15137, 15192, 15247, 15301, 15356, 15411, 15466, 15521, 15575, 15630, 15685, 15740, 15795],
  [15850, 15906, 15961, 16016, 16071, 16126, 16182, 16237, 16292, 16348, 16403, 16459, 16514, 16570, 16625, 16681],
  [16737, 16792, 16848, 16904, 16960, 17016, 17071, 17127, 17183, 17239, 17295, 17352, 17408, 17464, 17520, 17576],
  [17633, 17689, 17745, 17802, 17858, 17914, 17971, 18028, 18084, 18141, 18197, 18254, 18311, 18368, 18424, 18481],
  [18538, 18595, 18652, 18709, 18766, 18823, 18880, 18937, 18995, 19052, 19109, 19167, 19224, 19281, 19339, 19396]]

/-- `EXP_ROM` (R68), entries 384 to 511. -/
def expRows3 : List (List Nat) := [
  [19454, 19511, 19569, 19626, 19684, 19742, 19800, 19857, 19915, 19973, 20031, 20089, 20147, 20205, 20263, 20321],
  [20379, 20437, 20496, 20554, 20612, 20670, 20729, 20787, 20846, 20904, 20963, 21021, 21080, 21139, 21197, 21256],
  [21315, 21374, 21432, 21491, 21550, 21609, 21668, 21727, 21786, 21845, 21905, 21964, 22023, 22082, 22142, 22201],
  [22260, 22320, 22379, 22439, 22498, 22558, 22618, 22677, 22737, 22797, 22857, 22917, 22977, 23036, 23096, 23156],
  [23216, 23277, 23337, 23397, 23457, 23517, 23578, 23638, 23698, 23759, 23819, 23880, 23940, 24001, 24062, 24122],
  [24183, 24244, 24304, 24365, 24426, 24487, 24548, 24609, 24670, 24731, 24792, 24853, 24915, 24976, 25037, 25099],
  [25160, 25221, 25283, 25344, 25406, 25467, 25529, 25591, 25652, 25714, 25776, 25838, 25900, 25962, 26023, 26085],
  [26148, 26210, 26272, 26334, 26396, 26458, 26521, 26583, 26645, 26708, 26770, 26833, 26895, 26958, 27021, 27083]]

/-- `EXP_ROM` (R68), entries 512 to 639. -/
def expRows4 : List (List Nat) := [
  [27146, 27209, 27271, 27334, 27397, 27460, 27523, 27586, 27649, 27712, 27775, 27839, 27902, 27965, 28028, 28092],
  [28155, 28219, 28282, 28346, 28409, 28473, 28536, 28600, 28664, 28728, 28791, 28855, 28919, 28983, 29047, 29111],
  [29175, 29240, 29304, 29368, 29432, 29496, 29561, 29625, 29690, 29754, 29819, 29883, 29948, 30012, 30077, 30142],
  [30207, 30272, 30336, 30401, 30466, 30531, 30596, 30661, 30727, 30792, 30857, 30922, 30988, 31053, 31118, 31184],
  [31249, 31315, 31380, 31446, 31512, 31577, 31643, 31709, 31775, 31841, 31907, 31973, 32039, 32105, 32171, 32237],
  [32303, 32369, 32436, 32502, 32568, 32635, 32701, 32768, 32834, 32901, 32968, 33034, 33101, 33168, 33235, 33302],
  [33369, 33436, 33503, 33570, 33637, 33704, 33771, 33838, 33906, 33973, 34040, 34108, 34175, 34243, 34310, 34378],
  [34446, 34513, 34581, 34649, 34717, 34785, 34852, 34920, 34988, 35057, 35125, 35193, 35261, 35329, 35398, 35466]]

/-- `EXP_ROM` (R68), entries 640 to 767. -/
def expRows5 : List (List Nat) := [
  [35534, 35603, 35671, 35740, 35808, 35877, 35946, 36014, 36083, 36152, 36221, 36290, 36359, 36428, 36497, 36566],
  [36635, 36704, 36773, 36843, 36912, 36981, 37051, 37120, 37190, 37259, 37329, 37399, 37468, 37538, 37608, 37678],
  [37747, 37817, 37887, 37957, 38028, 38098, 38168, 38238, 38308, 38379, 38449, 38519, 38590, 38660, 38731, 38802],
  [38872, 38943, 39014, 39084, 39155, 39226, 39297, 39368, 39439, 39510, 39581, 39652, 39724, 39795, 39866, 39938],
  [40009, 40081, 40152, 40224, 40295, 40367, 40439, 40510, 40582, 40654, 40726, 40798, 40870, 40942, 41014, 41086],
  [41158, 41231, 41303, 41375, 41448, 41520, 41593, 41665, 41738, 41810, 41883, 41956, 42029, 42101, 42174, 42247],
  [42320, 42393, 42466, 42539, 42613, 42686, 42759, 42833, 42906, 42979, 43053, 43126, 43200, 43274, 43347, 43421],
  [43495, 43569, 43642, 43716, 43790, 43864, 43938, 44013, 44087, 44161, 44235, 44310, 44384, 44458, 44533, 44607]]

/-- `EXP_ROM` (R68), entries 768 to 895. -/
def expRows6 : List (List Nat) := [
  [44682, 44757, 44831, 44906, 44981, 45056, 45131, 45205, 45280, 45355, 45431, 45506, 45581, 45656, 45731, 45807],
  [45882, 45958, 46033, 46109, 46184, 46260, 46336, 46411, 46487, 46563, 46639, 46715, 46791, 46867, 46943, 47019],
  [47095, 47172, 47248, 47324, 47401, 47477, 47554, 47630, 47707, 47784, 47860, 47937, 48014, 48091, 48168, 48245],
  [48322, 48399, 48476, 48553, 48631, 48708, 48785, 48863, 48940, 49018, 49095, 49173, 49251, 49328, 49406, 49484],
  [49562, 49640, 49718, 49796, 49874, 49952, 50030, 50108, 50187, 50265, 50343, 50422, 50500, 50579, 50658, 50736],
  [50815, 50894, 50973, 51052, 51131, 51210, 51289, 51368, 51447, 51526, 51605, 51685, 51764, 51843, 51923, 52002],
  [52082, 52162, 52241, 52321, 52401, 52481, 52561, 52641, 52721, 52801, 52881, 52961, 53041, 53122, 53202, 53282],
  [53363, 53443, 53524, 53605, 53685, 53766, 53847, 53928, 54008, 54089, 54170, 54251, 54333, 54414, 54495, 54576]]

/-- `EXP_ROM` (R68), entries 896 to 1023. -/
def expRows7 : List (List Nat) := [
  [54658, 54739, 54820, 54902, 54983, 55065, 55147, 55228, 55310, 55392, 55474, 55556, 55638, 55720, 55802, 55884],
  [55966, 56049, 56131, 56213, 56296, 56378, 56461, 56543, 56626, 56709, 56792, 56874, 56957, 57040, 57123, 57206],
  [57289, 57373, 57456, 57539, 57622, 57706, 57789, 57873, 57956, 58040, 58124, 58207, 58291, 58375, 58459, 58543],
  [58627, 58711, 58795, 58879, 58964, 59048, 59132, 59217, 59301, 59386, 59470, 59555, 59640, 59724, 59809, 59894],
  [59979, 60064, 60149, 60234, 60319, 60405, 60490, 60575, 60661, 60746, 60831, 60917, 61003, 61088, 61174, 61260],
  [61346, 61432, 61518, 61604, 61690, 61776, 61862, 61948, 62035, 62121, 62208, 62294, 62381, 62467, 62554, 62641],
  [62727, 62814, 62901, 62988, 63075, 63162, 63249, 63337, 63424, 63511, 63599, 63686, 63774, 63861, 63949, 64036],
  [64124, 64212, 64300, 64388, 64476, 64564, 64652, 64740, 64828, 64916, 65005, 65093, 65182, 65270, 65359, 65447]]

/-- `EXP_ROM` (R68), entries 1024 to 1024. -/
def expRows8 : List (List Nat) := [
  [65535]]

/-- `EXP_ROM` (R68): 65 rows, 1025 entries. -/
def expRows : List (List Nat) :=
  expRows0 ++ expRows1 ++ expRows2 ++ expRows3 ++ expRows4 ++ expRows5 ++ expRows6 ++ expRows7 ++ expRows8

/-- Entry `i` of a table printed 16 entries a row. -/
def rowEntry (rows : List (List Nat)) (i : Fin 1025) : U16 :=
  BitVec.ofNat 16 ((rows.getD (i.val / 16) []).getD (i.val % 16) 0)

/-- The eight words of `ALG_ROM` (R70), index 0 to 7. -/
def algWords : List U16 := [0x5551, 0x6161, 0x6651, 0x6661, 0x5922, 0x59A2, 0x2651, 0x2222]

/-- `SCALE8(v) = floor(v * 65536 / 255)` (R241). -/
def scale8 (v : BitVec 8) : Fx := BitVec.ofNat 32 (v.toNat * 2 ^ fracBits / levelMax)

end Sys2Proof.Machine
end

