-- ==== Sys2Proof/Machine/Reference.lean ====
section
/-! DEFINITION. The reference value of every open parameter (R8). The machine of Dispatch and Step is the datapath
at these values; every operation below it takes the parameters as an argument. -/

namespace Sys2Proof

/-- The reference parameters: R66, R68, R70, R175, R185, R241; the overflow policy is the default, wrap (D5, U1). -/
def Config.reference : Config where
  sinRom := Machine.rowEntry Machine.sinRows
  expRom := Machine.rowEntry Machine.expRows
  algRom := fun n => Machine.algWords.getD n.toNat 0
  log2Fs := 0x000F8CFD
  envStart := 0x00010000
  envFloor := 0x00000000
  envUpper := 0x00020000
  envLower := 0x00010000
  scale8 := Machine.scale8
  ovf := .wrap

end Sys2Proof
end

