-- ==== Sys2Proof/Syntax.lean ====
section
/-! DEFINITION. The instructions: one constructor per row of spec/opcode_table.json (format H: R92 to R97, format A:
R99, format W: R100), and the transactions a unit's ports can carry (R91, R98, R229). -/

namespace Sys2Proof

/-- An operator index, 0 to 3 (R20, R95: every 2-bit value is legal). -/
inductive OpIdx where
  | o0 | o1 | o2 | o3
deriving DecidableEq, Repr

/-- One constructor per row of the opcode table. A host command whose data field is ignored (R96) carries no data, and
an ALU function that ignores `b` (R99) carries no `b`. -/
inductive Instr where
  /-- `NOP` (R280) -/
  | nop
  /-- `TICK` (R255) -/
  | tick
  /-- `NOTE_ON pitch` (R263) -/
  | noteOn (pitch : Fx)
  /-- `NOTE_OFF` (R264) -/
  | noteOff
  /-- `SET_FREQ pitch` (R262) -/
  | setFreq (pitch : Fx)
  /-- `SET_ALG n` (R281) -/
  | setAlg (n : BitVec 32)
  /-- `WR i, WAVE, v` (R283) -/
  | wrWave (i : OpIdx) (v : BitVec 32)
  /-- `WR i, TL, v` (R284) -/
  | wrTl (i : OpIdx) (v : BitVec 32)
  /-- `WR i, FBL, v` (R285) -/
  | wrFbl (i : OpIdx) (v : BitVec 32)
  /-- `WR i, TUNE, v` (R286) -/
  | wrTune (i : OpIdx) (v : Fx)
  /-- `WR i, AR, v` (R287) -/
  | wrAr (i : OpIdx) (v : Fx)
  /-- `WR i, DR, v` (R288) -/
  | wrDr (i : OpIdx) (v : Fx)
  /-- `WR i, RR, v` (R289) -/
  | wrRr (i : OpIdx) (v : Fx)
  /-- `WR i, SL, v` (R290) -/
  | wrSl (i : OpIdx) (v : Fx)
  /-- `WR i, SUSEN, v` (R291) -/
  | wrSusen (i : OpIdx) (v : BitVec 32)
  /-- `WR i, DIV, v` (R292) -/
  | wrDiv (i : OpIdx) (v : BitVec 32)
  /-- `ADD(a, b)` (R124) -/
  | aluAdd (a b : Fx)
  /-- `SUB(a, b)` (R125) -/
  | aluSub (a b : Fx)
  /-- `MUL(a, b)` (R126) -/
  | aluMul (a b : Fx)
  /-- `MULI(a, k)` (R127): `k` is a plain signed integer -/
  | aluMuli (a k : BitVec 32)
  /-- `SHL(a, b)` (R128): the amount is `b[4:0]` -/
  | aluShl (a b : Fx)
  /-- `SHR(a, b)` (R129): the amount is `b[4:0]` -/
  | aluShr (a b : Fx)
  /-- `AND(a, b)` (R130) -/
  | aluAnd (a b : Fx)
  /-- `FRAC(a)` (R131) -/
  | aluFrac (a : Fx)
  /-- `FROMI(k)` (R121): `k` is a plain signed integer -/
  | aluFromi (k : BitVec 32)
  /-- `EQ(a, b)` (R132) -/
  | aluEq (a b : Fx)
  /-- `LT(a, b)` (R133) -/
  | aluLt (a b : Fx)
  /-- `WAVE(0, p)` (R221) -/
  | waveFullSine (p : U16)
  /-- `WAVE(1, p)` (R222) -/
  | waveHalfSine (p : U16)
  /-- `WAVE(2, p)` (R223) -/
  | waveDblHalfSine (p : U16)
  /-- `WAVE(3, p)` (R224) -/
  | waveDblQuartSine (p : U16)
  /-- `WAVE(4, p)` (R225) -/
  | waveFastSine (p : U16)
  /-- `WAVE(5, p)` (R226) -/
  | waveFastHalfSine (p : U16)
  /-- `WAVE(6, p)` (R227) -/
  | waveSawish (p : U16)
  /-- `WAVE(7, p)` (R228) -/
  | waveSquare (p : U16)
deriving DecidableEq, Repr

/-- What one transaction puts on a unit's input ports, as bits: the raw form that is decoded. -/
inductive PortWord where
  /-- `cmd[39:0]` of the voice (R91, R93) -/
  | host (cmd : BitVec 40)
  /-- `fn[3:0]`, `a[31:0]`, `b[31:0]` of a stand-alone ALU (R98) -/
  | alu (fn : BitVec 4) (a b : BitVec 32)
  /-- selector and phase of the waveform unit, the arguments of WAVE (R229) -/
  | wave (sel : BitVec 3) (p : U16)
deriving DecidableEq, Repr

/-- What the outside world does to the machine: it asserts `rst` (R91, R330), or it presents a word. -/
inductive Input where
  | rst
  | present (w : PortWord)
deriving DecidableEq, Repr

end Sys2Proof
end

