-- ==== Sys2Proof/Machine/Types.lean ====
section
/-! DEFINITION. The closed sets of the spec and their codes: waveform shapes (R100), envelope states (R101), route
selectors (R102), quadrants (R220), reject causes (R301); operator index bits (R95). -/

namespace Sys2Proof

/-- The two bits `opcode[6:5]` of an operator index (R95). -/
def OpIdx.bits : OpIdx → BitVec 2
  | .o0 => 0 | .o1 => 1 | .o2 => 2 | .o3 => 3

/-- The operator index of two bits (R95). -/
def OpIdx.ofBits (b : BitVec 2) : OpIdx :=
  match b.getLsbD 1, b.getLsbD 0 with
  | false, false => .o0
  | false, true => .o1
  | true, false => .o2
  | true, true => .o3

namespace Machine

/-- The eight waveform shapes, "a closed, non-extensible set" (R100, R229): the type of `op[i].WAVE`. -/
inductive Shape where
  | fullSine | halfSine | dblHalfSine | dblQuartSine | fastSine | fastHalfSine | sawish | square
deriving DecidableEq, Repr

/-- The 3-bit waveform selector of a shape (R100). -/
def Shape.code : Shape → BitVec 3
  | .fullSine => 0 | .halfSine => 1 | .dblHalfSine => 2 | .dblQuartSine => 3
  | .fastSine => 4 | .fastHalfSine => 5 | .sawish => 6 | .square => 7

/-- The shape of a 3-bit selector (R100): all eight codes are assigned (R103). -/
def Shape.ofCode (c : BitVec 3) : Shape :=
  match c.getLsbD 2, c.getLsbD 1, c.getLsbD 0 with
  | false, false, false => .fullSine
  | false, false, true => .halfSine
  | false, true, false => .dblHalfSine
  | false, true, true => .dblQuartSine
  | true, false, false => .fastSine
  | true, false, true => .fastHalfSine
  | true, true, false => .sawish
  | true, true, true => .square

/-- The five envelope states (R37, R101): the type of `op[i].ST`. Codes 5 to 7 have no value here (U7). -/
inductive EnvState where
  | idle | attack | decay | sustain | release
deriving DecidableEq, Repr

/-- The 3-bit code of an envelope state (R101). -/
def EnvState.code : EnvState → BitVec 3
  | .idle => 0 | .attack => 1 | .decay => 2 | .sustain => 3 | .release => 4

/-- A register selector of a route rule, {None, Output, Adder} (R69, R102). -/
inductive RouteSel where
  | none | output | adder
deriving DecidableEq, Repr

/-- The selector of two bits (R102). Code 3 names no register and is read as None (R265). -/
def RouteSel.ofBits (b : BitVec 2) : RouteSel :=
  match b.getLsbD 1, b.getLsbD 0 with
  | false, false => .none
  | false, true => .output
  | true, false => .adder
  | true, true => .none

/-- One route rule: modulation source and output sink (R69). -/
structure RouteRule where
  src : RouteSel
  snk : RouteSel
deriving DecidableEq, Repr

/-- One quarter of a cycle of phase (R220). -/
inductive Quadrant where
  | q0 | q1 | q2 | q3
deriving DecidableEq, Repr

/-- The two causes of a reject (R301). -/
inductive RejectCause where
  | badop | badval
deriving DecidableEq, Repr

end Machine

end Sys2Proof
end

