-- ==== Sys2Proof/Machine/State.lean ====
section
/-! DEFINITION. The state: the 1665 bits of one voice instance (R20, R45) as the ownership tree of R21, the outputs of
the units, and the inputs still to be taken. Reset values: R331. -/

namespace Sys2Proof.Machine

/-- The registers of one phase generator (R34 to R36, R170). -/
structure PhaseGen where
  /-- `ACC` (R34): the accumulator, a fraction of a cycle -/
  acc : U16
  /-- `PITCH` (R35): log2 of the frequency in Hz -/
  pitch : Fx
  /-- `TUNE` (R36): offset added to the pitch -/
  tune : Fx
deriving DecidableEq, Repr

/-- The registers of one envelope generator (R37 to R44). -/
structure EnvGen where
  /-- `ST` (R37): lifecycle state -/
  st : EnvState
  /-- `IDX` (R38): curve index -/
  idx : Fx
  /-- `LVL` (R39): current output level -/
  lvl : Fx
  /-- `CNT` (R40): counter of the clock divider -/
  cnt : U16
  /-- `AR` (R41): attack rate -/
  ar : Fx
  /-- `DR` (R41): decay rate -/
  dr : Fx
  /-- `RR` (R41): release rate -/
  rr : Fx
  /-- `SL` (R42): sustain level -/
  sl : Fx
  /-- `SUSEN` (R43): sustain-enabled flag -/
  susen : Bool
  /-- `DIV` (R44): period of the clock divider -/
  div : U16
deriving DecidableEq, Repr

/-- The registers of one operator (R29 to R33) and its two generators (R21). -/
structure Operator where
  /-- `MODIN` (R29): modulation input -/
  modin : Fx
  /-- `FB` (R30): feedback register -/
  fb : Fx
  /-- `WAVE` (R31): waveform selector -/
  wave : Shape
  /-- `TL` (R32): total level -/
  tl : BitVec 8
  /-- `FBL` (R33): feedback depth -/
  fbl : BitVec 8
  pg : PhaseGen
  eg : EnvGen
deriving DecidableEq, Repr

/-- One voice instance: all the state the spec gives it (R20, R24 to R28, R45). -/
structure Voice where
  /-- `ALG` (R24): algorithm selector -/
  alg : BitVec 3
  /-- `OUT` (R25): scratch register "Output" -/
  out : Fx
  /-- `ADR` (R26): scratch register "Adder" -/
  adr : Fx
  /-- `SMP` (R27): sample output register -/
  smp : Fx
  /-- `ERR` (R28): sticky flags, bit 0 BADOP, bit 1 BADVAL -/
  err : BitVec 2
  op0 : Operator
  op1 : Operator
  op2 : Operator
  op3 : Operator
deriving DecidableEq, Repr

end Sys2Proof.Machine

namespace Sys2Proof.Machine

/-- The machine: the voice, the outputs of the units, and the inputs the outside world will still give, in order. -/
structure State where
  /-- the voice instance (R20) -/
  voice : Voice
  /-- the port `sample_valid` (R91): 1 after a step that completed a TICK (notes/assumptions/6.md) -/
  sampleValid : Bool
  /-- the output `y[31:0]` of the stand-alone ALU (R98), as last driven (notes/assumptions/2.md) -/
  aluY : Fx
  /-- the result of the stand-alone waveform unit (R229), as last driven (notes/assumptions/3.md) -/
  waveY : Fx
  /-- the inputs not yet taken, the next one first (R16, R47; notes/assumptions/1.md) -/
  inputs : List Input
deriving DecidableEq, Repr

/-- Why a step stops. No rule of the spec names a fault (R18, R300, R309); the one here is the model-level fault that U1
of 93_implementation_defined.md offers under the policy `OVF` = fault. -/
inductive Fault where
  /-- Raised by TICK, NOTE_OFF and a stand-alone ALU's ADD, SUB and MUL where one of these operations wraps and
  `Config.ovf` is `.fault`; never raised by `exec` and `step`, which run at the default, wrap (safe). -/
  | overflow
deriving DecidableEq, Repr

/-- Why a step has no meaning. -/
inductive Refusal where
  /-- Raised by an arm of `exec` whose instruction has no meaning yet; no arm does (safe). -/
  | notModelled (mnemonic : String)
  /-- Raised by `step` for a stand-alone ALU driven with `fn` 11 to 15: the value of `y` is not specified and a model
  refuses the code (R135, U2); safe. -/
  | reservedAluFunction
deriving DecidableEq, Repr

/-- A phase generator at reset (R331). -/
def PhaseGen.reset : PhaseGen := { acc := 0, pitch := 0, tune := 0 }

/-- An envelope generator at reset (R331): every register 0 (`ST` Idle), but `IDX` = `ENV_START`. -/
def EnvGen.reset : EnvGen :=
  { st := .idle, idx := Config.reference.envStart, lvl := 0, cnt := 0,
    ar := 0, dr := 0, rr := 0, sl := 0, susen := false, div := 0 }

/-- An operator at reset (R331). -/
def Operator.reset : Operator :=
  { modin := 0, fb := 0, wave := .fullSine, tl := 0, fbl := 0, pg := PhaseGen.reset, eg := EnvGen.reset }

/-- The voice at reset (R331). -/
def Voice.reset : Voice :=
  { alg := 0, out := 0, adr := 0, smp := 0, err := 0,
    op0 := Operator.reset, op1 := Operator.reset, op2 := Operator.reset, op3 := Operator.reset }

/-- The machine right after reset (R331, R333): `sample_valid` = 0; the stand-alone units' outputs are 0 (DESIGN
CHOICE, notes/assumptions/2.md and 3.md); no input given. -/
def State.reset : State :=
  { voice := Voice.reset, sampleValid := false, aluY := 0, waveY := 0, inputs := [] }

end Sys2Proof.Machine
end

