-- ==== Sys2Proof/Machine/Envelope.lean ====
section
/-! DEFINITION. The envelope generator of 43_envelope_fsm.md: EG.OPEN (R187), EG.CLOSE (R188), SEARCH (R189), EG.SAMPLE
(R190), EG.UPDATE (R191 to R195). -/

namespace Sys2Proof.Machine

/-- The Attack curve, att(idx) (R186). -/
def attackCurve (c : Config) (idx : Fx) : Fx := fxSub c.envUpper (exp2 c idx)

/-- The Decay and Release curve, rel(idx) (R186). -/
def releaseCurve (c : Config) (idx : Fx) : Fx := fxSub (exp2 c idx) c.envLower

/-- EG.OPEN (R187): from every state; writes `ST` and `IDX` only. -/
def envOpen (c : Config) (e : EnvGen) : EnvGen := { e with st := .attack, idx := c.envStart }

/-- `k` halvings of SEARCH on the interval `lo`, `hi`, then the middle of the last interval (R189). -/
def searchSteps (c : Config) (lvl : Fx) : Nat → Fx → Fx → Fx
  | 0, lo, hi => fxHalf (fxAdd lo hi)
  | k + 1, lo, hi =>
    if fxLt lvl (releaseCurve c (fxHalf (fxAdd lo hi))) then searchSteps c lvl k lo (fxHalf (fxAdd lo hi))
    else searchSteps c lvl k (fxHalf (fxAdd lo hi)) hi

/-- SEARCH (R189): `SEARCH_ITERS` (R8) iterations over [ENV_FLOOR, ENV_START]. -/
def search (c : Config) (lvl : Fx) : Fx := searchSteps c lvl searchIters c.envFloor c.envStart

/-- EG.CLOSE (R188): the search when in Attack; Release from every state, Idle included. -/
def envClose (c : Config) (e : EnvGen) : EnvGen :=
  match e.st with
  | .attack => { e with st := .release, idx := search c e.lvl }
  | .idle | .decay | .sustain | .release => { e with st := .release }

/-- EG.UPDATE in Attack (R192). -/
def attackUpdate (c : Config) (e : EnvGen) : EnvGen :=
  let idx := fxSub e.idx e.ar
  let lvl := attackCurve c idx
  if fxGe lvl fxOne || fxLe idx c.envFloor then { e with st := .decay, idx := c.envStart, lvl := fxOne }
  else { e with idx := idx, lvl := lvl }

/-- EG.UPDATE in Decay (R193): no clamp of the level, no reset of the index. -/
def decayUpdate (c : Config) (e : EnvGen) : EnvGen :=
  let idx := fxSub e.idx e.dr
  let lvl := releaseCurve c idx
  if fxLe lvl e.sl || fxLe idx c.envFloor then
    { e with st := if e.susen then .sustain else .release, idx := idx, lvl := lvl }
  else { e with idx := idx, lvl := lvl }

/-- EG.UPDATE in Release (R194). -/
def releaseUpdate (c : Config) (e : EnvGen) : EnvGen :=
  let idx := fxSub e.idx e.rr
  let lvl := releaseCurve c idx
  if fxLe lvl 0 || fxLe idx c.envFloor then { e with st := .idle, idx := c.envStart, lvl := 0 }
  else { e with idx := idx, lvl := lvl }

/-- EG.UPDATE, one envelope tick (R191); Sustain and Idle change nothing (R195). -/
def envUpdate (c : Config) (e : EnvGen) : EnvGen :=
  match e.st with
  | .attack => attackUpdate c e
  | .decay => decayUpdate c e
  | .release => releaseUpdate c e
  | .sustain | .idle => e

/-- The generator after EG.SAMPLE (R190): the divider counts, and the update runs when the count reaches `DIV`. -/
def envAdvance (c : Config) (e : EnvGen) : EnvGen :=
  if e.div.toNat ≤ (e.cnt + 1).toNat then envUpdate c { e with cnt := 0 }
  else { e with cnt := e.cnt + 1 }

/-- EG.SAMPLE (R190): the generator after the call and the level after the update, if one ran. -/
def envSample (c : Config) (e : EnvGen) : EnvGen × Fx := (envAdvance c e, (envAdvance c e).lvl)

end Sys2Proof.Machine
end

