-- ==== Sys2Proof/Machine/Phase.lean ====
section
/-! DEFINITION. The phase generator of 42_phase_accumulator.md: PG.UPDATE (R171), PG.SET_PITCH (R172), PG.SET_TUNE
(R173). -/

namespace Sys2Proof.Machine

/-- The increment: EXP2(PITCH + TUNE - LOG2_FS), recomputed at every call (R171). -/
def phaseIncrement (c : Config) (g : PhaseGen) : Fx := exp2 c (fxSub (fxAdd g.pitch g.tune) c.log2Fs)

/-- `FRAC(ADD(zext_16(p), d))` as a phase (R171): (p + d) mod 65536. -/
def phaseAdd (p : U16) (d : Fx) : U16 := (fxFrac (fxAdd (p.setWidth 32) d)).setWidth 16

/-- The generator after PG.UPDATE: the accumulator advanced, nothing else (R171, R177). -/
def phaseAdvance (c : Config) (g : PhaseGen) : PhaseGen := { g with acc := phaseAdd g.acc (phaseIncrement c g) }

/-- PG.UPDATE (R171): the generator after the call, and the returned phase, which uses the new accumulator. The
modulation is not stored (R177). -/
def phaseUpdate (c : Config) (g : PhaseGen) (modulation : Fx) : PhaseGen × U16 :=
  (phaseAdvance c g, phaseAdd (phaseAdvance c g).acc modulation)

/-- PG.SET_PITCH (R172). -/
def setPitch (v : Fx) (g : PhaseGen) : PhaseGen := { g with pitch := v }

/-- PG.SET_TUNE (R173). -/
def setTune (v : Fx) (g : PhaseGen) : PhaseGen := { g with tune := v }

end Sys2Proof.Machine
end

