-- ==== Sys2Proof/Machine/Waveform.lean ====
section
/-! DEFINITION. The waveform generator of 44_waveform_rom.md: a pure function of selector and phase (R220 to R229). -/

namespace Sys2Proof.Machine

/-- The quadrant code `p[15:14]` (R220). -/
def quadrant (p : U16) : Quadrant :=
  match p.getLsbD 15, p.getLsbD 14 with
  | false, false => .q0
  | false, true => .q1
  | true, false => .q2
  | true, true => .q3

/-- The sub-phase `w = p[13:0]` (R220), 0 to 16383. -/
def subPhase (p : U16) : Fin 16384 := (p.extractLsb' 0 14).toFin

/-- `w` itself as an argument of SINQ. -/
def rise (w : Fin 16384) : Fin 16385 := ⟨w.val, by omega⟩

/-- `mirror(w) = Q - w` (R220), the document's "quarter−w". -/
def mirror (w : Fin 16384) : Fin 16385 := ⟨16384 - w.val, by omega⟩

/-- `fold(w)` (R220): up over the first half quadrant, down over the second. -/
def fold (w : Fin 16384) : Fin 16385 :=
  if h : w.val < 8192 then ⟨2 * w.val, by omega⟩ else ⟨2 * (16384 - w.val), by omega⟩

/-- `S(a)` (R220): SINQ as an `fx`, 0 to 65535. -/
def sineAt (c : Config) (a : Fin 16385) : Fx := (sinq c a).setWidth 32

/-- FullSine (R221). -/
def fullSine (c : Config) (q : Quadrant) (w : Fin 16384) : Fx :=
  match q with
  | .q0 => sineAt c (rise w)
  | .q1 => sineAt c (mirror w)
  | .q2 => fxNeg (sineAt c (rise w))
  | .q3 => fxNeg (sineAt c (mirror w))

/-- HalfSine (R222). -/
def halfSine (c : Config) (q : Quadrant) (w : Fin 16384) : Fx :=
  match q with
  | .q0 => sineAt c (rise w)
  | .q1 => sineAt c (mirror w)
  | .q2 => 0
  | .q3 => 0

/-- DblHalfSine (R223). -/
def dblHalfSine (c : Config) (q : Quadrant) (w : Fin 16384) : Fx :=
  match q with
  | .q0 => sineAt c (rise w)
  | .q1 => sineAt c (mirror w)
  | .q2 => sineAt c (rise w)
  | .q3 => sineAt c (mirror w)

/-- DblQuartSine (R224). -/
def dblQuartSine (c : Config) (q : Quadrant) (w : Fin 16384) : Fx :=
  match q with
  | .q0 => sineAt c (rise w)
  | .q1 => 0
  | .q2 => fxNeg (sineAt c (rise w))
  | .q3 => 0

/-- FastSine (R225; conflict C3). -/
def fastSine (c : Config) (q : Quadrant) (w : Fin 16384) : Fx :=
  match q with
  | .q0 => sineAt c (fold w)
  | .q1 => fxNeg (sineAt c (fold w))
  | .q2 => 0
  | .q3 => 0

/-- FastHalfSine (R226). -/
def fastHalfSine (c : Config) (q : Quadrant) (w : Fin 16384) : Fx :=
  match q with
  | .q0 => sineAt c (fold w)
  | .q1 => sineAt c (fold w)
  | .q2 => 0
  | .q3 => 0

/-- Sawish (R227), with `h = half(w) = w >> 1` (R220). -/
def sawish (c : Config) (q : Quadrant) (w : Fin 16384) : Fx :=
  match q with
  | .q0 => sineAt c ⟨w.val / 2, by omega⟩
  | .q1 => sineAt c ⟨8192 + w.val / 2, by omega⟩
  | .q2 => fxNeg (sineAt c ⟨16384 - w.val / 2, by omega⟩)
  | .q3 => fxNeg (sineAt c ⟨8192 - w.val / 2, by omega⟩)

/-- Square (R228): exactly 1.0 and -1.0; reads no table. -/
def square (q : Quadrant) : Fx :=
  match q with
  | .q0 => 0x00010000
  | .q1 => 0x00010000
  | .q2 => 0xFFFF0000
  | .q3 => 0xFFFF0000

/-- WAVE(sel, p) (R229). -/
def waveform (c : Config) (sel : Shape) (p : U16) : Fx :=
  match sel with
  | .fullSine => fullSine c (quadrant p) (subPhase p)
  | .halfSine => halfSine c (quadrant p) (subPhase p)
  | .dblHalfSine => dblHalfSine c (quadrant p) (subPhase p)
  | .dblQuartSine => dblQuartSine c (quadrant p) (subPhase p)
  | .fastSine => fastSine c (quadrant p) (subPhase p)
  | .fastHalfSine => fastHalfSine c (quadrant p) (subPhase p)
  | .sawish => sawish c (quadrant p) (subPhase p)
  | .square => square (quadrant p)

end Sys2Proof.Machine
end

