-- ==== Sys2Proof/Machine/OperatorPath.lean ====
section
/-! DEFINITION. The operator datapath of 45_operator_datapath.md: OP.SAMPLE (R240). -/

namespace Sys2Proof.Machine

/-- Step 1 of OP.SAMPLE (R240): the modulation handed to the phase generator. -/
def opModulation (o : Operator) : Fx := fxAdd o.modin o.fb

/-- Step 2 (R240): the wave sample at the returned phase. -/
def opWave (c : Config) (o : Operator) : Fx := waveform c o.wave (phaseUpdate c o.pg (opModulation o)).2

/-- Step 3 (R240): the level of this sample. -/
def opLevel (c : Config) (o : Operator) : Fx := (envSample c o.eg).2

/-- Step 4 (R240): the output; exactly 0 when the level or the total level is 0, else the two products left to right,
each floored. -/
def opOutput (c : Config) (o : Operator) : Fx :=
  if fxEq (opLevel c o) 0 || decide (o.tl = 0) then 0
  else fxMul (fxMul (opWave c o) (opLevel c o)) (c.scale8 o.tl)

/-- The operator after OP.SAMPLE (R240): accumulator, envelope and feedback register written (step 5), nothing else. -/
def opAdvance (c : Config) (o : Operator) : Operator :=
  { o with
    pg := (phaseUpdate c o.pg (opModulation o)).1
    eg := (envSample c o.eg).1
    fb := fxMul (opOutput c o) (c.scale8 o.fbl) }

/-- OP.SAMPLE (R240): the operator after the call, and its output. -/
def opSample (c : Config) (o : Operator) : Operator × Fx := (opAdvance c o, opOutput c o)

end Sys2Proof.Machine
end

