-- ==== Sys2Proof/WellFormed.lean ====
section
/-! DEFINITION. Which instructions carry a legal operand: the column "legal data" of R97 and R293. An instruction that
fails the check still decodes and still runs; what it does is `reject(BADVAL)` (R304). -/

namespace Sys2Proof

/-- The operand is within the range R97 (and R281 for SET_ALG) gives it. Every other operand has no bound (R96), and
`OpIdx`, `Fx` and `U16` hold legal values only. -/
def Instr.WellFormed : Instr → Bool
  | .nop | .tick | .noteOff => true
  | .noteOn _ | .setFreq _ => true
  | .setAlg n => decide (n.toNat ≤ 7)
  | .wrWave _ v => decide (v.toNat ≤ 7)
  | .wrTl _ v => decide (v.toNat ≤ 255)
  | .wrFbl _ v => decide (v.toNat ≤ 255)
  | .wrTune _ _ | .wrAr _ _ | .wrDr _ _ | .wrRr _ _ | .wrSl _ _ => true
  | .wrSusen _ v => decide (v.toNat ≤ 1)
  | .wrDiv _ v => decide (v.toNat ≤ 65535)
  | .aluAdd _ _ | .aluSub _ _ | .aluMul _ _ | .aluMuli _ _ | .aluShl _ _ | .aluShr _ _ | .aluAnd _ _ => true
  | .aluFrac _ | .aluFromi _ | .aluEq _ _ | .aluLt _ _ => true
  | .waveFullSine _ | .waveHalfSine _ | .waveDblHalfSine _ | .waveDblQuartSine _ => true
  | .waveFastSine _ | .waveFastHalfSine _ | .waveSawish _ | .waveSquare _ => true

end Sys2Proof
end

