-- ==== Sys2Proof/Decode.lean ====
section
/-! DEFINITION. Decoding of a port word (R93 to R95, R99, R100), total, rejecting by name (R103), and the encoder
(R105: ignored data is assembled as 0). -/

namespace Sys2Proof

/-- Why a word names no instruction (R103). -/
inductive DecodeReject where
  /-- host opcode 0x06 to 0x7F -/
  | reservedOpcode
  /-- host opcode with bit 7 = 1 and register number 10 to 31 -/
  | reservedRegister
  /-- ALU `fn` 11 to 15 -/
  | reservedFunction
deriving DecidableEq, Repr

/-- `opcode = cmd[39:32]` (R93). -/
def opcodeOf (cmd : BitVec 40) : BitVec 8 := cmd.extractLsb' 32 8

/-- `data = cmd[31:0]` (R93). -/
def dataOf (cmd : BitVec 40) : BitVec 32 := cmd.extractLsb' 0 32

/-- `opcode[7]` = 0: the voice-level commands, by `opcode[6:0]` (R94). -/
def decodeVoiceCmd (n : BitVec 7) (data : BitVec 32) : Except DecodeReject Instr :=
  match n.toNat with
  | 0 => .ok .nop
  | 1 => .ok .tick
  | 2 => .ok (.noteOn data)
  | 3 => .ok .noteOff
  | 4 => .ok (.setFreq data)
  | 5 => .ok (.setAlg data)
  | _ => .error .reservedOpcode

/-- `opcode[7]` = 1: WR of register number `r = opcode[4:0]` of operator `i = opcode[6:5]` (R95, R97). -/
def decodeWr (i : OpIdx) (r : BitVec 5) (data : BitVec 32) : Except DecodeReject Instr :=
  match r.toNat with
  | 0 => .ok (.wrWave i data)
  | 1 => .ok (.wrTl i data)
  | 2 => .ok (.wrFbl i data)
  | 3 => .ok (.wrTune i data)
  | 4 => .ok (.wrAr i data)
  | 5 => .ok (.wrDr i data)
  | 6 => .ok (.wrRr i data)
  | 7 => .ok (.wrSl i data)
  | 8 => .ok (.wrSusen i data)
  | 9 => .ok (.wrDiv i data)
  | _ => .error .reservedRegister

/-- Format H (R93 to R95). -/
def decodeHost (cmd : BitVec 40) : Except DecodeReject Instr :=
  if (opcodeOf cmd).getLsbD 7 then
    decodeWr (OpIdx.ofBits ((opcodeOf cmd).extractLsb' 5 2)) ((opcodeOf cmd).extractLsb' 0 5) (dataOf cmd)
  else decodeVoiceCmd ((opcodeOf cmd).extractLsb' 0 7) (dataOf cmd)

/-- Format A: the ALU function select (R99). -/
def decodeAlu (fn : BitVec 4) (a b : BitVec 32) : Except DecodeReject Instr :=
  match fn.toNat with
  | 0 => .ok (.aluAdd a b)
  | 1 => .ok (.aluSub a b)
  | 2 => .ok (.aluMul a b)
  | 3 => .ok (.aluMuli a b)
  | 4 => .ok (.aluShl a b)
  | 5 => .ok (.aluShr a b)
  | 6 => .ok (.aluAnd a b)
  | 7 => .ok (.aluFrac a)
  | 8 => .ok (.aluFromi a)
  | 9 => .ok (.aluEq a b)
  | 10 => .ok (.aluLt a b)
  | _ => .error .reservedFunction

/-- Format W: the waveform selector (R100). -/
def decodeWave (sel : BitVec 3) (p : U16) : Instr :=
  match Machine.Shape.ofCode sel with
  | .fullSine => .waveFullSine p
  | .halfSine => .waveHalfSine p
  | .dblHalfSine => .waveDblHalfSine p
  | .dblQuartSine => .waveDblQuartSine p
  | .fastSine => .waveFastSine p
  | .fastHalfSine => .waveFastHalfSine p
  | .sawish => .waveSawish p
  | .square => .waveSquare p

/-- The decoder: every word gives an instruction or a named rejection. -/
def decode : PortWord → Except DecodeReject Instr
  | .host cmd => decodeHost cmd
  | .alu fn a b => decodeAlu fn a b
  | .wave sel p => .ok (decodeWave sel p)

/-- The 40-bit word `{opcode, data}` (R93, R105). -/
def hostWord (opcode : BitVec 8) (data : BitVec 32) : BitVec 40 := opcode ++ data

/-- The opcode `0x80 + 32*i + r` of `WR i, REG` (R95, R97). -/
def wrOpcode (i : OpIdx) (r : BitVec 5) : BitVec 8 := 1#1 ++ i.bits ++ r

/-- The encoder: R94, R95 and R97 for the host commands, R99 for the ALU functions, R100 for the shapes. Ignored
operands are assembled as 0. -/
def encode : Instr → PortWord
  | .nop => .host (hostWord 0x00 0)
  | .tick => .host (hostWord 0x01 0)
  | .noteOn pitch => .host (hostWord 0x02 pitch)
  | .noteOff => .host (hostWord 0x03 0)
  | .setFreq pitch => .host (hostWord 0x04 pitch)
  | .setAlg n => .host (hostWord 0x05 n)
  | .wrWave i v => .host (hostWord (wrOpcode i 0) v)
  | .wrTl i v => .host (hostWord (wrOpcode i 1) v)
  | .wrFbl i v => .host (hostWord (wrOpcode i 2) v)
  | .wrTune i v => .host (hostWord (wrOpcode i 3) v)
  | .wrAr i v => .host (hostWord (wrOpcode i 4) v)
  | .wrDr i v => .host (hostWord (wrOpcode i 5) v)
  | .wrRr i v => .host (hostWord (wrOpcode i 6) v)
  | .wrSl i v => .host (hostWord (wrOpcode i 7) v)
  | .wrSusen i v => .host (hostWord (wrOpcode i 8) v)
  | .wrDiv i v => .host (hostWord (wrOpcode i 9) v)
  | .aluAdd a b => .alu 0 a b
  | .aluSub a b => .alu 1 a b
  | .aluMul a b => .alu 2 a b
  | .aluMuli a k => .alu 3 a k
  | .aluShl a b => .alu 4 a b
  | .aluShr a b => .alu 5 a b
  | .aluAnd a b => .alu 6 a b
  | .aluFrac a => .alu 7 a 0
  | .aluFromi k => .alu 8 k 0
  | .aluEq a b => .alu 9 a b
  | .aluLt a b => .alu 10 a b
  | .waveFullSine p => .wave Machine.Shape.fullSine.code p
  | .waveHalfSine p => .wave Machine.Shape.halfSine.code p
  | .waveDblHalfSine p => .wave Machine.Shape.dblHalfSine.code p
  | .waveDblQuartSine p => .wave Machine.Shape.dblQuartSine.code p
  | .waveFastSine p => .wave Machine.Shape.fastSine.code p
  | .waveFastHalfSine p => .wave Machine.Shape.fastHalfSine.code p
  | .waveSawish p => .wave Machine.Shape.sawish.code p
  | .waveSquare p => .wave Machine.Shape.square.code p

/-- The port word of an opcode-table row, from the row's own bits: 40 bits are a host command, 4 bits (or 4 bits in a
whole byte) an ALU function select, 3 bits a waveform selector; operand ports are 0. The table numbers format A and
format W from the same code 0, so a word given as one whole byte does not say which of the two it is: it is read as
format A (DESIGN CHOICE, notes/assumptions/4.md). -/
def tablePortWord (nbits w : Nat) : Option PortWord :=
  if nbits = 40 then some (.host (BitVec.ofNat 40 w))
  else if nbits = 3 then some (.wave (BitVec.ofNat 3 w) 0)
  else if (nbits = 4 ∨ nbits = 8) ∧ w < 16 then some (.alu (BitVec.ofNat 4 w) 0 0)
  else none

/-- The instruction the decoder reads from an opcode-table word. -/
def decodeTableWord (nbits w : Nat) : Option Instr :=
  match tablePortWord nbits w with
  | some pw =>
    match decode pw with
    | .ok i => some i
    | .error _ => none
  | none => none

end Sys2Proof
end

