-- ==== Sys2Proof/Machine/Flags.lean ====
section
/-! DEFINITION. The flags (R48): the two sticky bits of `ERR` (R28, R302), and the result word of the ALU comparisons
(R99), which is a value and not a stored flag. No arithmetic operation sets a flag. -/

namespace Sys2Proof.Machine

/-- The bit of `ERR` a cause sets (R301, R302). -/
def RejectCause.mask : RejectCause → BitVec 2
  | .badop => 0b01
  | .badval => 0b10

/-- `ERR <- ERR | mask`: the other bit keeps its value (R302). -/
def raiseErr (cause : RejectCause) (err : BitVec 2) : BitVec 2 := err ||| cause.mask

/-- `y` of EQ and LT: 0 or 1 in bit 0, bits 31:1 zero (R99). -/
def boolWord (b : Bool) : Fx := if b then 1 else 0

end Sys2Proof.Machine
end

