-- ==== Sys2Proof/Machine/Operands.lean ====
section
/-! DEFINITION. Operand forms of the host commands: `u = zext_32(data)`, the largest legal value of each bounded
operand (R96, R97, R281), and the narrowing of an accepted value. -/

namespace Sys2Proof.Machine

/-- Largest legal `data` of SET_ALG (R281). -/
def maxAlg : Nat := nAlg - 1

/-- Largest legal `data` of WR WAVE (R97). -/
def maxWave : Nat := nWave - 1

/-- Largest legal `data` of WR TL (R97). -/
def maxTl : Nat := levelMax

/-- Largest legal `data` of WR FBL (R97). -/
def maxFbl : Nat := levelMax

/-- Largest legal `data` of WR SUSEN (R97). -/
def maxSusen : Nat := 1

/-- Largest legal `data` of WR DIV (R97). -/
def maxDiv : Nat := 65535

/-- The value is accepted: compared as an unsigned 32-bit integer (R96, R304). -/
def inRange (max : Nat) (data : BitVec 32) : Bool := decide (data.toNat ≤ max)

/-- `u[n-1:0]` (R281 to R292). -/
def lowBits (n : Nat) (data : BitVec 32) : BitVec n := data.extractLsb' 0 n

end Sys2Proof.Machine
end

