-- ==== Sys2Proof/Machine/Ops.lean ====
section
/-! DEFINITION. The named operations on the state: the operators of a voice by index, the taking of an input, and the
reject (R302), which is what this machine has in place of an exception: it saves nothing, transfers no control, and
there is no return from it (R306, R312, R313). -/

namespace Sys2Proof.Machine

/-- `op[i]` (R12, R20). -/
def Voice.op (v : Voice) : OpIdx → Operator
  | .o0 => v.op0
  | .o1 => v.op1
  | .o2 => v.op2
  | .o3 => v.op3

/-- Write of operator `i`. -/
def Voice.setOp (v : Voice) (i : OpIdx) (o : Operator) : Voice :=
  match i with
  | .o0 => { v with op0 := o }
  | .o1 => { v with op1 := o }
  | .o2 => { v with op2 := o }
  | .o3 => { v with op3 := o }

/-- A broadcast: all four operators inside one command (R73). -/
def Voice.mapOps (v : Voice) (f : Operator → Operator) : Voice :=
  { v with op0 := f v.op0, op1 := f v.op1, op2 := f v.op2, op3 := f v.op3 }

/-- `reject(flag)` on the registers: one bit of `ERR` and nothing else (R302). -/
def Voice.reject (v : Voice) (cause : RejectCause) : Voice := { v with err := raiseErr cause v.err }

/-- The state with another voice. -/
def State.setVoice (s : State) (v : Voice) : State := { s with voice := v }

/-- The state with a new value on the stand-alone ALU's output `y` (R98). -/
def State.setAluY (s : State) (y : Fx) : State := { s with aluY := y }

/-- The state with a new result of the stand-alone waveform unit (R229). -/
def State.setWaveY (s : State) (y : Fx) : State := { s with waveY := y }

/-- A completed TICK: the voice, and the pulse on `sample_valid` (R91, R255). -/
def State.deliver (s : State) (v : Voice) : State := { s with voice := v, sampleValid := true }

/-- `reject(flag)` (R302): `sample_valid` does not pulse, every other register keeps its value. -/
def State.reject (s : State) (cause : RejectCause) : State := s.setVoice (s.voice.reject cause)

/-- Write of one register of operator `i`. -/
def State.updateOp (s : State) (i : OpIdx) (f : Operator → Operator) : State :=
  s.setVoice (s.voice.setOp i (f (s.voice.op i)))

/-- A bounded configuration write: executed whole, or rejected whole with `BADVAL` (R282, R304). -/
def checked (max : Nat) (data : BitVec 32) (accepted : State) (s : State) : Host.Outcome State Fault Refusal :=
  if inRange max data then .next accepted else .next (s.reject .badval)

/-- No input is there: no register changes (R319, R330); a pulse on `sample_valid` is over. -/
def State.idle (s : State) : State := { s with sampleValid := false }

/-- A word is issued (R91): it is taken from the inputs, and the last pulse on `sample_valid` is over. -/
def State.accept (s : State) (rest : List Input) : State := { s with sampleValid := false, inputs := rest }

/-- `rst` is asserted (R330, R333): every register of the voice takes its reset value. -/
def State.takeReset (s : State) (rest : List Input) : State :=
  { s with voice := Voice.reset, sampleValid := false, inputs := rest }

/-- What is done with a word that names no instruction (R103): a reserved opcode or register number is
`reject(BADOP)` (R303); a reserved ALU function is refused (R135). -/
def takeReject (r : DecodeReject) (s : State) : Host.Outcome State Fault Refusal :=
  match r with
  | .reservedOpcode => .next (s.reject .badop)
  | .reservedRegister => .next (s.reject .badop)
  | .reservedFunction => .refused .reservedAluFunction

end Sys2Proof.Machine
end

