-- ==== Sys2Proof/Machine/VoicePath.lean ====
section
/-! DEFINITION. The voice of 46_voice_router.md: routing (R70, R102, R255 to R258), one sample period (R255), and the
broadcasts of the event commands (R262 to R264). -/

namespace Sys2Proof.Machine

/-- The 4-bit rule of operator `i` in an `ALG_ROM` word, `word[4i+3:4i]` (R70). -/
def routeNibble (word : U16) : OpIdx → BitVec 4
  | .o0 => word.extractLsb' 0 4
  | .o1 => word.extractLsb' 4 4
  | .o2 => word.extractLsb' 8 4
  | .o3 => word.extractLsb' 12 4

/-- `src = rule[3:2]`, `snk = rule[1:0]` (R70, R102). -/
def routeRule (word : U16) (i : OpIdx) : RouteRule :=
  { src := RouteSel.ofBits ((routeNibble word i).extractLsb' 2 2)
    snk := RouteSel.ofBits ((routeNibble word i).extractLsb' 0 2) }

/-- The rule of operator `i` under the selected algorithm (R24, R255). -/
def Voice.route (c : Config) (v : Voice) (i : OpIdx) : RouteRule := routeRule (c.algRom v.alg) i

/-- `Reg(s)` (46_voice_router.md): the register a selector names, 0 for None. -/
def Voice.reg (v : Voice) : RouteSel → Fx
  | .none => 0
  | .output => v.out
  | .adder => v.adr

/-- Write of a result into the sink: Output overwrites, Adder accumulates, None discards (R255, R257). -/
def Voice.sink (v : Voice) (sel : RouteSel) (y : Fx) : Voice :=
  match sel with
  | .none => v
  | .output => { v with out := y }
  | .adder => { v with adr := fxAdd v.adr y }

/-- Operator `i` with its modulation input written from the source register (R255). -/
def Voice.modulated (c : Config) (v : Voice) (i : OpIdx) : Operator :=
  { v.op i with modin := v.reg (v.route c i).src }

/-- One turn of TICK's loop (R255): source, OP.SAMPLE, sink, each to completion (R256). -/
def tickOp (c : Config) (v : Voice) (i : OpIdx) : Voice :=
  (v.setOp i (opSample c (v.modulated c i)).1).sink (v.route c i).snk (opSample c (v.modulated c i)).2

/-- The scratch registers cleared at the start of a sample period (R25, R26, R255). -/
def Voice.clearScratch (v : Voice) : Voice := { v with out := 0, adr := 0 }

/-- The four operators in index order (R255, R256, R335). -/
def tickOps (c : Config) (v : Voice) : Voice := tickOp c (tickOp c (tickOp c (tickOp c v .o0) .o1) .o2) .o3

/-- `SMP` takes the register the last operator wrote into (R255, R258). -/
def Voice.latchSample (c : Config) (v : Voice) : Voice := { v with smp := v.reg (v.route c .o3).snk }

/-- TICK on the voice (R255). -/
def tick (c : Config) (v : Voice) : Voice := (tickOps c v.clearScratch).latchSample c

/-- SET_FREQ on the voice (R262): PG.SET_PITCH of all four phase generators. -/
def broadcastPitch (pitch : Fx) (v : Voice) : Voice := v.mapOps fun o => { o with pg := setPitch pitch o.pg }

/-- EG.OPEN of all four envelopes (R263). -/
def openAll (c : Config) (v : Voice) : Voice := v.mapOps fun o => { o with eg := envOpen c o.eg }

/-- EG.CLOSE of all four envelopes (R264). -/
def closeAll (c : Config) (v : Voice) : Voice := v.mapOps fun o => { o with eg := envClose c o.eg }

end Sys2Proof.Machine
end

