-- ==== Sys2Proof/Machine/Overflow.lean ====
section
/-! DEFINITION. The overflow policy (`OVF` of R8; U1 of 93_implementation_defined.md; R138, R307): where an ADD, SUB or
MUL of a command wraps, and what the policy makes of it. The values the datapath computes are the wrapped ones. The sign
flip of the shapes, SUB(0, S(a)), never wraps, because S(a) <= 65535. -/

namespace Sys2Proof.Machine

/-- A command whose operations wrap or do not, under the policy: with `.wrap` it completes, with `.fault` a wrap stops
it. -/
def guardOverflow (c : Config) (wraps : Bool) (t : State) : Host.Outcome State Fault Refusal :=
  match c.ovf with
  | .wrap => .next t
  | .fault => if wraps then .fault .overflow else .next t

/-- An ADD or SUB of PG.UPDATE wraps (R171). -/
def phaseWraps (c : Config) (g : PhaseGen) (m : Fx) : Bool :=
  addWraps g.pitch g.tune || subWraps (fxAdd g.pitch g.tune) c.log2Fs ||
    addWraps (g.acc.setWidth 32) (phaseIncrement c g) || addWraps ((phaseAdvance c g).acc.setWidth 32) m

/-- A SUB of EG.SAMPLE wraps (R190 to R194). -/
def envWraps (c : Config) (e : EnvGen) : Bool :=
  decide (e.div.toNat ≤ (e.cnt + 1).toNat) &&
    match e.st with
    | .attack => subWraps e.idx e.ar || subWraps c.envUpper (exp2 c (fxSub e.idx e.ar))
    | .decay => subWraps e.idx e.dr || subWraps (exp2 c (fxSub e.idx e.dr)) c.envLower
    | .release => subWraps e.idx e.rr || subWraps (exp2 c (fxSub e.idx e.rr)) c.envLower
    | .sustain => false
    | .idle => false

/-- An ADD, SUB or MUL of OP.SAMPLE wraps (R240). -/
def opWraps (c : Config) (o : Operator) : Bool :=
  addWraps o.modin o.fb || phaseWraps c o.pg (opModulation o) || envWraps c o.eg ||
    (!(fxEq (opLevel c o) 0 || decide (o.tl = 0)) &&
      (mulWraps (opWave c o) (opLevel c o) || mulWraps (fxMul (opWave c o) (opLevel c o)) (c.scale8 o.tl))) ||
    mulWraps (opOutput c o) (c.scale8 o.fbl)

/-- An operation of one turn of TICK's loop wraps, the accumulating ADD included (R255). -/
def turnWraps (c : Config) (v : Voice) (i : OpIdx) : Bool :=
  opWraps c (v.modulated c i) ||
    match (v.route c i).snk with
    | .none => false
    | .output => false
    | .adder => addWraps v.adr (opSample c (v.modulated c i)).2

/-- An operation of a TICK wraps. -/
def tickWraps (c : Config) (v : Voice) : Bool :=
  turnWraps c v.clearScratch .o0 ||
    turnWraps c (tickOp c v.clearScratch .o0) .o1 ||
    turnWraps c (tickOp c (tickOp c v.clearScratch .o0) .o1) .o2 ||
    turnWraps c (tickOp c (tickOp c (tickOp c v.clearScratch .o0) .o1) .o2) .o3

/-- An ADD or SUB of `k` halvings of SEARCH, or of its last middle, wraps (R189). -/
def searchStepsWrap (c : Config) (lvl : Fx) : Nat → Fx → Fx → Bool
  | 0, lo, hi => addWraps lo hi
  | k + 1, lo, hi =>
    addWraps lo hi || subWraps (exp2 c (fxHalf (fxAdd lo hi))) c.envLower ||
      if fxLt lvl (releaseCurve c (fxHalf (fxAdd lo hi))) then searchStepsWrap c lvl k lo (fxHalf (fxAdd lo hi))
      else searchStepsWrap c lvl k (fxHalf (fxAdd lo hi)) hi

/-- An operation of EG.CLOSE wraps: only the search computes (R188). -/
def closeWraps (c : Config) (e : EnvGen) : Bool :=
  match e.st with
  | .attack => searchStepsWrap c e.lvl searchIters c.envFloor c.envStart
  | .idle | .decay | .sustain | .release => false

/-- An operation of a NOTE_OFF wraps (R264). -/
def closeAllWraps (c : Config) (v : Voice) : Bool :=
  closeWraps c v.op0.eg || closeWraps c v.op1.eg || closeWraps c v.op2.eg || closeWraps c v.op3.eg

end Sys2Proof.Machine
end

