-- ==== Sys2Proof/Machine/AluFamily.lean ====
section
/-! DEFINITION. The meanings of the ALU functions (format A, R99) on a stand-alone ALU (R98): `y` is driven, nothing
else changes; no flag, no exception (40_q16_alu.md, head; R48). ADD, SUB and MUL are under the overflow policy (U1). -/

namespace Sys2Proof.Machine

/-- ADD (R124) at given parameters. -/
def runAluAdd (c : Config) (a b : Fx) (s : State) : Host.Outcome State Fault Refusal :=
  guardOverflow c (addWraps a b) (s.setAluY (fxAdd a b))

/-- ADD (R124). -/
def execAluAdd (a b : Fx) (s : State) : Host.Outcome State Fault Refusal :=
  runAluAdd Config.reference a b s

/-- SUB (R125) at given parameters. -/
def runAluSub (c : Config) (a b : Fx) (s : State) : Host.Outcome State Fault Refusal :=
  guardOverflow c (subWraps a b) (s.setAluY (fxSub a b))

/-- SUB (R125). -/
def execAluSub (a b : Fx) (s : State) : Host.Outcome State Fault Refusal :=
  runAluSub Config.reference a b s

/-- MUL (R126) at given parameters. -/
def runAluMul (c : Config) (a b : Fx) (s : State) : Host.Outcome State Fault Refusal :=
  guardOverflow c (mulWraps a b) (s.setAluY (fxMul a b))

/-- MUL (R126). -/
def execAluMul (a b : Fx) (s : State) : Host.Outcome State Fault Refusal :=
  runAluMul Config.reference a b s

/-- MULI (R127). -/
def execAluMuli (a k : BitVec 32) (s : State) : Host.Outcome State Fault Refusal := .next (s.setAluY (fxMuli a k))

/-- SHL (R128). -/
def execAluShl (a b : Fx) (s : State) : Host.Outcome State Fault Refusal := .next (s.setAluY (fxShl a b))

/-- SHR (R129). -/
def execAluShr (a b : Fx) (s : State) : Host.Outcome State Fault Refusal := .next (s.setAluY (fxShr a b))

/-- AND (R130). -/
def execAluAnd (a b : Fx) (s : State) : Host.Outcome State Fault Refusal := .next (s.setAluY (fxAnd a b))

/-- FRAC (R131). -/
def execAluFrac (a : Fx) (s : State) : Host.Outcome State Fault Refusal := .next (s.setAluY (fxFrac a))

/-- FROMI (R121). -/
def execAluFromi (k : BitVec 32) (s : State) : Host.Outcome State Fault Refusal := .next (s.setAluY (fxFromi k))

/-- EQ (R132). -/
def execAluEq (a b : Fx) (s : State) : Host.Outcome State Fault Refusal := .next (s.setAluY (boolWord (fxEq a b)))

/-- LT (R133). -/
def execAluLt (a b : Fx) (s : State) : Host.Outcome State Fault Refusal := .next (s.setAluY (boolWord (fxLt a b)))

end Sys2Proof.Machine
end

