-- ==== Sys2Proof/Machine/ConfigCommands.lean ====
section
/-! DEFINITION. The meanings of `WR i, REG, value` (R282), one per register (R283 to R292). -/

namespace Sys2Proof.Machine

/-- `WR i, WAVE, v` (R283). -/
def execWrWave (i : OpIdx) (v : BitVec 32) (s : State) : Host.Outcome State Fault Refusal :=
  checked maxWave v (s.updateOp i fun o => { o with wave := Shape.ofCode (lowBits 3 v) }) s

/-- `WR i, TL, v` (R284). -/
def execWrTl (i : OpIdx) (v : BitVec 32) (s : State) : Host.Outcome State Fault Refusal :=
  checked maxTl v (s.updateOp i fun o => { o with tl := lowBits 8 v }) s

/-- `WR i, FBL, v` (R285). -/
def execWrFbl (i : OpIdx) (v : BitVec 32) (s : State) : Host.Outcome State Fault Refusal :=
  checked maxFbl v (s.updateOp i fun o => { o with fbl := lowBits 8 v }) s

/-- `WR i, TUNE, v` (R286): PG.SET_TUNE (R173). -/
def execWrTune (i : OpIdx) (v : Fx) (s : State) : Host.Outcome State Fault Refusal :=
  .next (s.updateOp i fun o => { o with pg := setTune v o.pg })

/-- `WR i, AR, v` (R287). -/
def execWrAr (i : OpIdx) (v : Fx) (s : State) : Host.Outcome State Fault Refusal :=
  .next (s.updateOp i fun o => { o with eg := { o.eg with ar := v } })

/-- `WR i, DR, v` (R288). -/
def execWrDr (i : OpIdx) (v : Fx) (s : State) : Host.Outcome State Fault Refusal :=
  .next (s.updateOp i fun o => { o with eg := { o.eg with dr := v } })

/-- `WR i, RR, v` (R289). -/
def execWrRr (i : OpIdx) (v : Fx) (s : State) : Host.Outcome State Fault Refusal :=
  .next (s.updateOp i fun o => { o with eg := { o.eg with rr := v } })

/-- `WR i, SL, v` (R290). -/
def execWrSl (i : OpIdx) (v : Fx) (s : State) : Host.Outcome State Fault Refusal :=
  .next (s.updateOp i fun o => { o with eg := { o.eg with sl := v } })

/-- `WR i, SUSEN, v` (R291). -/
def execWrSusen (i : OpIdx) (v : BitVec 32) (s : State) : Host.Outcome State Fault Refusal :=
  checked maxSusen v (s.updateOp i fun o => { o with eg := { o.eg with susen := v.getLsbD 0 } }) s

/-- `WR i, DIV, v` (R292): `CNT` is not written. -/
def execWrDiv (i : OpIdx) (v : BitVec 32) (s : State) : Host.Outcome State Fault Refusal :=
  checked maxDiv v (s.updateOp i fun o => { o with eg := { o.eg with div := lowBits 16 v } }) s

end Sys2Proof.Machine
end

