-- ==== Sys2Proof/Machine/VoiceCommands.lean ====
section
/-! DEFINITION. The meanings of the voice-level host commands: NOP (R280), TICK (R255), NOTE_ON (R263), NOTE_OFF
(R264), SET_FREQ (R262), SET_ALG (R281). -/

namespace Sys2Proof.Machine

/-- NOP (R280): no register changes. -/
def execNop (s : State) : Host.Outcome State Fault Refusal := .next s

/-- TICK (R255) at given parameters. -/
def runTick (c : Config) (s : State) : Host.Outcome State Fault Refusal :=
  guardOverflow c (tickWraps c s.voice) (s.deliver (tick c s.voice))

/-- TICK (R255). -/
def execTick (s : State) : Host.Outcome State Fault Refusal := runTick Config.reference s

/-- NOTE_ON (R263): the pitch to all four operators, then every envelope opened. -/
def execNoteOn (pitch : Fx) (s : State) : Host.Outcome State Fault Refusal :=
  .next (s.setVoice (openAll Config.reference (broadcastPitch pitch s.voice)))

/-- NOTE_OFF (R264) at given parameters: every envelope closed. -/
def runNoteOff (c : Config) (s : State) : Host.Outcome State Fault Refusal :=
  guardOverflow c (closeAllWraps c s.voice) (s.setVoice (closeAll c s.voice))

/-- NOTE_OFF (R264). -/
def execNoteOff (s : State) : Host.Outcome State Fault Refusal := runNoteOff Config.reference s

/-- SET_FREQ (R262): the pitch to all four operators. -/
def execSetFreq (pitch : Fx) (s : State) : Host.Outcome State Fault Refusal :=
  .next (s.setVoice (broadcastPitch pitch s.voice))

/-- SET_ALG (R281). -/
def execSetAlg (n : BitVec 32) (s : State) : Host.Outcome State Fault Refusal :=
  checked maxAlg n (s.setVoice { s.voice with alg := lowBits 3 n }) s

end Sys2Proof.Machine
end

