-- ==== Sys2Proof/Machine/WaveFamily.lean ====
section
/-! DEFINITION. The meanings of the waveform selectors (format W, R100) on a stand-alone waveform unit (R229): the
result is driven, nothing else changes. Inside the voice the same functions run in TICK (R240). -/

namespace Sys2Proof.Machine

/-- WAVE(0, p) (R221). -/
def execWaveFullSine (p : U16) (s : State) : Host.Outcome State Fault Refusal :=
  .next (s.setWaveY (fullSine Config.reference (quadrant p) (subPhase p)))

/-- WAVE(1, p) (R222). -/
def execWaveHalfSine (p : U16) (s : State) : Host.Outcome State Fault Refusal :=
  .next (s.setWaveY (halfSine Config.reference (quadrant p) (subPhase p)))

/-- WAVE(2, p) (R223). -/
def execWaveDblHalfSine (p : U16) (s : State) : Host.Outcome State Fault Refusal :=
  .next (s.setWaveY (dblHalfSine Config.reference (quadrant p) (subPhase p)))

/-- WAVE(3, p) (R224). -/
def execWaveDblQuartSine (p : U16) (s : State) : Host.Outcome State Fault Refusal :=
  .next (s.setWaveY (dblQuartSine Config.reference (quadrant p) (subPhase p)))

/-- WAVE(4, p) (R225). -/
def execWaveFastSine (p : U16) (s : State) : Host.Outcome State Fault Refusal :=
  .next (s.setWaveY (fastSine Config.reference (quadrant p) (subPhase p)))

/-- WAVE(5, p) (R226). -/
def execWaveFastHalfSine (p : U16) (s : State) : Host.Outcome State Fault Refusal :=
  .next (s.setWaveY (fastHalfSine Config.reference (quadrant p) (subPhase p)))

/-- WAVE(6, p) (R227). -/
def execWaveSawish (p : U16) (s : State) : Host.Outcome State Fault Refusal :=
  .next (s.setWaveY (sawish Config.reference (quadrant p) (subPhase p)))

/-- WAVE(7, p) (R228). -/
def execWaveSquare (p : U16) (s : State) : Host.Outcome State Fault Refusal :=
  .next (s.setWaveY (square (quadrant p)))

end Sys2Proof.Machine
end

