-- ==== Sys2Proof/Machine/Dispatch.lean ====
section
/-! DEFINITION. The meaning of every instruction: one arm per constructor of Instr. -/

namespace Sys2Proof.Machine

def exec (i : Instr) (s : State) : Host.Outcome State Fault Refusal :=
  match i with
  | .nop => Sys2Proof.Machine.execNop s
  | .tick => Sys2Proof.Machine.execTick s
  | .noteOn pitch => Sys2Proof.Machine.execNoteOn pitch s
  | .noteOff => Sys2Proof.Machine.execNoteOff s
  | .setFreq pitch => Sys2Proof.Machine.execSetFreq pitch s
  | .setAlg n => Sys2Proof.Machine.execSetAlg n s
  | .wrWave k v => Sys2Proof.Machine.execWrWave k v s
  | .wrTl k v => Sys2Proof.Machine.execWrTl k v s
  | .wrFbl k v => Sys2Proof.Machine.execWrFbl k v s
  | .wrTune k v => Sys2Proof.Machine.execWrTune k v s
  | .wrAr k v => Sys2Proof.Machine.execWrAr k v s
  | .wrDr k v => Sys2Proof.Machine.execWrDr k v s
  | .wrRr k v => Sys2Proof.Machine.execWrRr k v s
  | .wrSl k v => Sys2Proof.Machine.execWrSl k v s
  | .wrSusen k v => Sys2Proof.Machine.execWrSusen k v s
  | .wrDiv k v => Sys2Proof.Machine.execWrDiv k v s
  | .aluAdd a b => Sys2Proof.Machine.execAluAdd a b s
  | .aluSub a b => Sys2Proof.Machine.execAluSub a b s
  | .aluMul a b => Sys2Proof.Machine.execAluMul a b s
  | .aluMuli a k => Sys2Proof.Machine.execAluMuli a k s
  | .aluShl a b => Sys2Proof.Machine.execAluShl a b s
  | .aluShr a b => Sys2Proof.Machine.execAluShr a b s
  | .aluAnd a b => Sys2Proof.Machine.execAluAnd a b s
  | .aluFrac a => Sys2Proof.Machine.execAluFrac a s
  | .aluFromi k => Sys2Proof.Machine.execAluFromi k s
  | .aluEq a b => Sys2Proof.Machine.execAluEq a b s
  | .aluLt a b => Sys2Proof.Machine.execAluLt a b s
  | .waveFullSine p => Sys2Proof.Machine.execWaveFullSine p s
  | .waveHalfSine p => Sys2Proof.Machine.execWaveHalfSine p s
  | .waveDblHalfSine p => Sys2Proof.Machine.execWaveDblHalfSine p s
  | .waveDblQuartSine p => Sys2Proof.Machine.execWaveDblQuartSine p s
  | .waveFastSine p => Sys2Proof.Machine.execWaveFastSine p s
  | .waveFastHalfSine p => Sys2Proof.Machine.execWaveFastHalfSine p s
  | .waveSawish p => Sys2Proof.Machine.execWaveSawish p s
  | .waveSquare p => Sys2Proof.Machine.execWaveSquare p s

end Sys2Proof.Machine
end

