-- ==== Sys2Proof/Machine/Fetch.lean ====
section
/-! DEFINITION. What the next input asks for: the machine has no program counter and no instruction memory; the
sequence of inputs takes their place (R16, R47). -/

namespace Sys2Proof.Machine

/-- What one step has to do. -/
inductive Fetched where
  /-- no input is there -/
  | nothing
  /-- `rst` is asserted -/
  | reset (rest : List Input)
  /-- a word that names an instruction -/
  | issue (i : Instr) (rest : List Input)
  /-- a word that names none -/
  | reserved (r : DecodeReject) (rest : List Input)

/-- The next input, decoded. -/
def fetch (s : State) : Fetched :=
  match s.inputs with
  | [] => .nothing
  | .rst :: rest => .reset rest
  | .present w :: rest =>
    match decode w with
    | .ok i => .issue i rest
    | .error r => .reserved r rest

/-- The inputs with an opcode-table word placed first (`tablePortWord`). -/
def withWord (inputs : List Input) (nbits w : Nat) : List Input :=
  match tablePortWord nbits w with
  | some pw => .present pw :: inputs
  | none => inputs

end Sys2Proof.Machine
end

