-- ==== Sys2Proof/Machine/Step.lean ====
section
/-! DEFINITION. One step: the complete execution of one input (R16, R341). -/

namespace Sys2Proof.Machine

/-- One step (R16): the next input is taken and executed to completion; with none, no register changes. -/
def step (s : State) : Host.Outcome State Fault Refusal :=
  match fetch s with
  | .nothing => .next s.idle
  | .reset rest => .next (s.takeReset rest)
  | .issue i rest => exec i (s.accept rest)
  | .reserved r rest => takeReject r (s.accept rest)

/-- The opcode-table word of `nbits` bits as the very next input (notes/assumptions/5.md). -/
def State.withFetchWord (s : State) (nbits w : Nat) : State := { s with inputs := withWord s.inputs nbits w }

end Sys2Proof.Machine
end

