-- ==== Sys2Proof/Machine/HostFloat.lean ====
section
/-! DEFINITION. The host-side conversions FROM_FLOAT (R122) and TO_FLOAT (R123), on rational numbers. They are not
hardware functions: a host uses them to make an operand or to read a sample. -/

namespace Sys2Proof.Machine

/-- Round toward zero (R12 `trunc`). -/
def truncRat (x : ℚ) : Int := if 0 ≤ x then x.floor else x.ceil

/-- FROM_FLOAT (R122): defined for -32768 <= x < 32768; outside it has no meaning (U4). -/
def fromFloat (x : ℚ) : Option Fx :=
  if -32768 ≤ x ∧ x < 32768 then some (s32 (truncRat (x * 2 ^ fracBits))) else none

/-- TO_FLOAT, real(v) (R13, R123). -/
def toFloat (v : Fx) : ℚ := (v.toInt : ℚ) / 2 ^ fracBits

end Sys2Proof.Machine
end

