-- ==== Sys2Proof/Safety.lean ====
section
/-! DEFINITION. The terms claims use: what an instruction leaves alone, the envelope invariants of R196, the ordinary
operating range (R138, R243). -/

namespace Sys2Proof.Safety

open Sys2Proof.Machine

/-! ### Frames -/

/-- The voice-level registers keep their values. -/
abbrev SameVoiceRegs (s t : State) : Prop :=
  t.voice.alg = s.voice.alg ∧ t.voice.out = s.voice.out ∧ t.voice.adr = s.voice.adr ∧
    t.voice.smp = s.voice.smp ∧ t.voice.err = s.voice.err

/-- Everything outside the voice keeps its value. -/
abbrev SameOutside (s t : State) : Prop :=
  t.sampleValid = s.sampleValid ∧ t.aluY = s.aluY ∧ t.waveY = s.waveY ∧ t.inputs = s.inputs

/-- From `s` to `t` only operator `i` changed, and it is `o` now. -/
abbrev OnlyOp (i : OpIdx) (o : Operator) (s t : State) : Prop :=
  t.voice.op i = o ∧ (∀ j, j ≠ i → t.voice.op j = s.voice.op j) ∧ SameVoiceRegs s t ∧ SameOutside s t

/-- From `s` to `t` only the operators changed, each by `f`. -/
abbrev EachOp (f : Operator → Operator) (s t : State) : Prop :=
  (∀ i, t.voice.op i = f (s.voice.op i)) ∧ SameVoiceRegs s t ∧ SameOutside s t

/-- The state with another value in `ERR`. -/
abbrev withErr (s : State) (e : BitVec 2) : State := { s with voice := { s.voice with err := e } }

/-- The configuration registers of an operator (R45, kind C) agree. -/
abbrev SameConfig (o o' : Operator) : Prop :=
  o'.wave = o.wave ∧ o'.tl = o.tl ∧ o'.fbl = o.fbl ∧ o'.pg.pitch = o.pg.pitch ∧ o'.pg.tune = o.pg.tune ∧
    o'.eg.ar = o.eg.ar ∧ o'.eg.dr = o.eg.dr ∧ o'.eg.rr = o.eg.rr ∧ o'.eg.sl = o.eg.sl ∧
    o'.eg.susen = o.eg.susen ∧ o'.eg.div = o.eg.div

/-- The next input does not assert `rst`. -/
abbrev NoReset (s : State) : Prop := s.inputs.head? ≠ some .rst

/-- The next input drives the stand-alone ALU with a reserved function code (R135). -/
def reservedAluNext (s : State) : Bool :=
  match s.inputs with
  | .present (.alu fn _ _) :: _ => decide (11 ≤ fn.toNat)
  | _ => false

/-- The opcodes without an assignment (R103, R303). -/
def reservedOpcode (op : Nat) : Bool := (decide (op < 128) && decide (6 ≤ op)) || (decide (128 ≤ op) && decide (10 ≤ op % 32))

/-! ### Routing, as R255 to R258 describe it -/

/-- (Output, Adder) after the results of some operators were sunk, first operator first (R257). -/
def scratchAfter : List (RouteSel × Fx) → Fx × Fx :=
  List.foldl (fun r e => match e.1 with
    | .none => r
    | .output => (e.2, r.2)
    | .adder => (r.1, r.2 + e.2)) (0, 0)

/-- The register a selector names: 0 for None. -/
def readScratch (sel : RouteSel) (r : Fx × Fx) : Fx :=
  match sel with
  | .none => 0
  | .output => r.1
  | .adder => r.2

/-- The two voices agree on everything a TICK may read: all but `OUT`, `ADR`, `SMP` and the four `MODIN`. -/
abbrev AgreeForTick (v v' : Voice) : Prop :=
  v'.alg = v.alg ∧ v'.err = v.err ∧ ∀ i, { v'.op i with modin := 0 } = { v.op i with modin := 0 }

/-! ### Envelope invariants -/

/-- R40: `CNT` <= 65534; R196 (b): in Idle the index is `ENV_START` and the level 0. -/
abbrev EnvWellKept (e : EnvGen) : Prop :=
  e.cnt.toNat ≤ 65534 ∧ (e.st = .idle → e.idx = Config.reference.envStart ∧ e.lvl = 0)

/-- The same for the four envelopes. -/
abbrev EnvInv (s : State) : Prop := ∀ i, EnvWellKept (s.voice.op i).eg

/-! ### The ordinary operating range (its bounds are the model's: notes/assumptions/22.md) -/

/-- A strictly positive rate, at most half the largest value. -/
abbrev NormalRate (r : Fx) : Prop := 0 < r.toInt ∧ r.toInt ≤ 0x40000000

/-- A pitch below 15 octaves. -/
abbrev NormalPitch (p : Fx) : Prop := -0x20000000 ≤ p.toInt ∧ p.toInt < 0x000F0000

/-- A tuning below 8 octaves. -/
abbrev NormalTune (p : Fx) : Prop := -0x20000000 ≤ p.toInt ∧ p.toInt < 0x00080000

/-- The index lies where the phases of an envelope can leave it, and the level in [-1.0, 1.0] (R198). -/
abbrev EnvInRange (e : EnvGen) : Prop :=
  (match e.st with
    | .attack => 0 < e.idx.toInt ∧ e.idx.toInt ≤ 65536
    | .decay => 0 < e.idx.toInt ∧ e.idx.toInt ≤ 65536
    | .sustain => -0x40000000 ≤ e.idx.toInt ∧ e.idx.toInt ≤ 65536
    | .release => -0x40000000 ≤ e.idx.toInt ∧ e.idx.toInt ≤ 65536
    | .idle => e.idx.toInt = 65536) ∧
  -65536 ≤ e.lvl.toInt ∧ e.lvl.toInt ≤ 65536

/-- An operator with positive rates, ordinary pitch and tuning, and envelope and feedback in range. -/
abbrev NormalOperator (o : Operator) : Prop :=
  NormalRate o.eg.ar ∧ NormalRate o.eg.dr ∧ NormalRate o.eg.rr ∧ NormalPitch o.pg.pitch ∧ NormalTune o.pg.tune ∧
    EnvInRange o.eg ∧ -65536 ≤ o.fb.toInt ∧ o.fb.toInt ≤ 65536

/-- Four such operators. -/
abbrev NormalVoice (v : Voice) : Prop := ∀ i, NormalOperator (v.op i)

/-- An instruction that writes no pitch, tuning or rate outside the ordinary range. -/
def normalInstr (i : Instr) : Prop :=
  match i with
  | .noteOn p => NormalPitch p
  | .setFreq p => NormalPitch p
  | .wrTune _ v => NormalTune v
  | .wrAr _ v => NormalRate v
  | .wrDr _ v => NormalRate v
  | .wrRr _ v => NormalRate v
  | _ => True

end Sys2Proof.Safety
end

