-- ==== Sys2Proof/Certificates/Slice0/Obligations.lean ====
section
/-! DEFINITION. The statements for the provers. -/

open Sys2Proof Sys2Proof.Machine Sys2Proof.Safety

/-! ### Reset, step, rejects -/

/-- R331: every register is 0 but `IDX`, which is 0x00010000. -/
def Obligations.ResetRegisterValues : Prop :=
  State.reset.voice.alg = 0 ∧ State.reset.voice.out = 0 ∧ State.reset.voice.adr = 0 ∧ State.reset.voice.smp = 0 ∧
  State.reset.voice.err = 0 ∧
  ∀ i, State.reset.voice.op i =
    { modin := 0, fb := 0, wave := .fullSine, tl := 0, fbl := 0,
      pg := { acc := 0, pitch := 0, tune := 0 },
      eg := { st := .idle, idx := 0x00010000, lvl := 0, cnt := 0, ar := 0, dr := 0, rr := 0, sl := 0,
              susen := false, div := 0 } }

/-- R16, R341: one step takes the next word and runs the instruction it decodes to; the step itself removes the word
from the inputs and ends the last pulse on `sample_valid` (model's choice, assumptions 1 and 6). -/
def Obligations.StepRunsDecodedInstruction : Prop :=
  ∀ (s : State) (w : PortWord) (rest : List Input) (i : Instr),
    s.inputs = .present w :: rest → decode w = .ok i →
    step s = exec i { s with sampleValid := false, inputs := rest }

/-- R319, R330: with no input no register changes; `rst` puts every register of the voice at its reset value (how the
two reach the model is its choice, assumptions 7 and 13). -/
def Obligations.StepIdlesAndResets : Prop :=
  (∀ s : State, s.inputs = [] → step s = .next { s with sampleValid := false }) ∧
  (∀ (s : State) (rest : List Input), s.inputs = .rst :: rest →
    step s = .next { s with voice := State.reset.voice, sampleValid := false, inputs := rest })

/-- R303: a reserved opcode sets `ERR[0]` and changes nothing else, whatever the data; 210 of 256 opcodes (the
word leaves the inputs and the last pulse ends: assumptions 1 and 6). -/
def Obligations.ReservedOpcodeSetsBadop : Prop :=
  (∀ (s : State) (cmd : BitVec 40) (rest : List Input),
    s.inputs = .present (.host cmd) :: rest → reservedOpcode (cmd.toNat / 2 ^ 32) = true →
    step s = .next (withErr { s with sampleValid := false, inputs := rest } (s.voice.err ||| 0b01))) ∧
  ((List.range 256).filter reservedOpcode).length = 210

/-- R304: a bounded operand above its bound sets `ERR[1]` and changes nothing else; no other command can, nor a value
within the bound. -/
def Obligations.OutOfRangeSetsBadval : Prop :=
  (∀ (s : State) (i : OpIdx) (v : BitVec 32),
    (7 < v.toNat → exec (.setAlg v) s = .next (withErr s (s.voice.err ||| 0b10))) ∧
    (7 < v.toNat → exec (.wrWave i v) s = .next (withErr s (s.voice.err ||| 0b10))) ∧
    (255 < v.toNat → exec (.wrTl i v) s = .next (withErr s (s.voice.err ||| 0b10))) ∧
    (255 < v.toNat → exec (.wrFbl i v) s = .next (withErr s (s.voice.err ||| 0b10))) ∧
    (1 < v.toNat → exec (.wrSusen i v) s = .next (withErr s (s.voice.err ||| 0b10))) ∧
    (65535 < v.toNat → exec (.wrDiv i v) s = .next (withErr s (s.voice.err ||| 0b10)))) ∧
  (∀ (i : Instr) (s t : State), i.WellFormed = true → exec i s = .next t → t.voice.err = s.voice.err)

/-- R302 (c): `ERR` is sticky; without `rst` a bit that is 1 stays 1. -/
def Obligations.ErrIsSticky : Prop :=
  ∀ s t : State, NoReset s → step s = .next t → s.voice.err ||| t.voice.err = t.voice.err

/-- R28, R302 (d): nothing reads `ERR`: two states that differ in `ERR` only step to states that differ in `ERR` only. -/
def Obligations.NothingReadsErr : Prop :=
  ∀ (s t : State) (e : BitVec 2), step s = .next t →
    ∃ t', step (withErr s e) = .next t' ∧ withErr t' t.voice.err = t

/-- R18, R309, R135: no instruction and no reject stops the machine: a step completes in every state, but for a
stand-alone ALU driven with a reserved function code, which is refused. That a step with no input answers a next state
is the model's choice (assumption 13), as is the name of the refusal (assumption 16). -/
def Obligations.StepIsTotal : Prop :=
  ∀ s : State, (reservedAluNext s = false → ∃ t, step s = .next t) ∧
    (reservedAluNext s = true → step s = .refused .reservedAluFunction)

/-! ### Encoding -/

/-- Words written out from R93 to R95, R97, R99, R100; the first four are R105's examples. -/
def Obligations.SpecWordsDecode : Prop :=
  decode (.host 0x020008C807) = .ok (.noteOn 0x0008C807) ∧
  decode (.host 0xC1000000FF) = .ok (.wrTl .o2 255) ∧
  decode (.host 0x8000000007) = .ok (.wrWave .o0 7) ∧
  decode (.host 0x0100000000) = .ok .tick ∧
  decode (.host 0xE900000003) = .ok (.wrDiv .o3 3) ∧
  decode (.alu 0b1010 0x00008000 0x00010000) = .ok (.aluLt 0x00008000 0x00010000) ∧
  decode (.wave 0b110 0x9000) = .ok (.waveSawish 0x9000)

/-- Decoding an encoded instruction gives it back, every operand at every value. -/
def Obligations.DecodeOfEncode : Prop := ∀ i : Instr, decode (encode i) = .ok i

/-- The other direction: a word that decodes is the encoding of what it decodes to, but for the bits R96 and R99 say
are ignored (data of NOP, TICK, NOTE_OFF; `b` of FRAC and FROMI). -/
def Obligations.EncodeOfDecode : Prop :=
  ∀ (w : PortWord) (i : Instr), decode w = .ok i →
    match i, w with
    | .nop, .host cmd => cmd.toNat / 2 ^ 32 = 0x00
    | .tick, .host cmd => cmd.toNat / 2 ^ 32 = 0x01
    | .noteOff, .host cmd => cmd.toNat / 2 ^ 32 = 0x03
    | .aluFrac a, .alu fn a' _ => fn = 7 ∧ a' = a
    | .aluFromi k, .alu fn k' _ => fn = 8 ∧ k' = k
    | _, _ => encode i = w

/-- R94, R95, R103: which words are rejected at decode, and under which name. -/
def Obligations.RejectedWords : Prop :=
  (∀ cmd : BitVec 40, decode (.host cmd) = .error .reservedOpcode ↔
    6 ≤ cmd.toNat / 2 ^ 32 ∧ cmd.toNat / 2 ^ 32 < 128) ∧
  (∀ cmd : BitVec 40, decode (.host cmd) = .error .reservedRegister ↔
    128 ≤ cmd.toNat / 2 ^ 32 ∧ 10 ≤ cmd.toNat / 2 ^ 32 % 32) ∧
  (∀ (fn : BitVec 4) (a b : BitVec 32), decode (.alu fn a b) = .error .reservedFunction ↔ 11 ≤ fn.toNat) ∧
  (∀ (sel : BitVec 3) (p : U16), ∃ i, decode (.wave sel p) = .ok i)

/-! ### Voice-level commands -/

/-- R280: NOP with any data changes nothing. -/
def Obligations.NopChangesNothing : Prop :=
  ∀ (data : BitVec 32) (s : State), decode (.host (hostWord 0x00 data)) = .ok .nop ∧ exec .nop s = .next s

/-- R262: SET_FREQ writes `PITCH` of all four operators and nothing else. -/
def Obligations.SetFreqBroadcastsPitch : Prop :=
  ∀ (pitch : Fx) (s : State), decode (.host (hostWord 0x04 pitch)) = .ok (.setFreq pitch) ∧
    ∃ t, exec (.setFreq pitch) s = .next t ∧ EachOp (fun o => { o with pg := { o.pg with pitch := pitch } }) s t

/-- R263, R187: NOTE_ON writes `PITCH`, `ST` and `IDX` of all four operators and nothing else. -/
def Obligations.NoteOnOpensEveryEnvelope : Prop :=
  ∀ (pitch : Fx) (s : State), decode (.host (hostWord 0x02 pitch)) = .ok (.noteOn pitch) ∧
    ∃ t, exec (.noteOn pitch) s = .next t ∧
      EachOp (fun o => { o with
        pg := { o.pg with pitch := pitch }
        eg := { o.eg with st := .attack, idx := 0x00010000 } }) s t

/-- R264, R188: NOTE_OFF puts every envelope into Release, from every state; in Attack the index becomes the search's
result; nothing else changes. -/
def Obligations.NoteOffClosesEveryEnvelope : Prop :=
  ∀ (data : BitVec 32) (s : State), decode (.host (hostWord 0x03 data)) = .ok .noteOff ∧
    ∃ t, exec .noteOff s = .next t ∧
      EachOp (fun o => { o with eg := { o.eg with
        st := .release
        idx := if o.eg.st = .attack then search Config.reference o.eg.lvl else o.eg.idx } }) s t

/-- R281: SET_ALG writes `ALG` for 0 to 7; above it is rejected. -/
def Obligations.SetAlgWritesAlg : Prop :=
  ∀ (n : BitVec 32) (s : State), decode (.host (hostWord 0x05 n)) = .ok (.setAlg n) ∧
    (n.toNat ≤ 7 → exec (.setAlg n) s = .next { s with voice := { s.voice with alg := n.setWidth 3 } }) ∧
    (7 < n.toNat → exec (.setAlg n) s = .next (withErr s (s.voice.err ||| 0b10)))

/-- R283, R284, R285, R291, R292: the bounded operator registers. -/
def Obligations.WrNarrowRegisters : Prop :=
  ∀ (i : OpIdx) (v : BitVec 32) (s : State),
    (decode (.host (hostWord (BitVec.ofNat 8 (0x80 + 32 * i.bits.toNat + 0)) v)) = .ok (.wrWave i v) ∧
      (7 < v.toNat → exec (.wrWave i v) s = .next (withErr s (s.voice.err ||| 0b10))) ∧
      (v.toNat ≤ 7 → ∃ t sh, exec (.wrWave i v) s = .next t ∧ sh.code = v.setWidth 3 ∧
        OnlyOp i { s.voice.op i with wave := sh } s t)) ∧
    (decode (.host (hostWord (BitVec.ofNat 8 (0x80 + 32 * i.bits.toNat + 1)) v)) = .ok (.wrTl i v) ∧
      (255 < v.toNat → exec (.wrTl i v) s = .next (withErr s (s.voice.err ||| 0b10))) ∧
      (v.toNat ≤ 255 → ∃ t, exec (.wrTl i v) s = .next t ∧
        OnlyOp i { s.voice.op i with tl := v.setWidth 8 } s t)) ∧
    (decode (.host (hostWord (BitVec.ofNat 8 (0x80 + 32 * i.bits.toNat + 2)) v)) = .ok (.wrFbl i v) ∧
      (255 < v.toNat → exec (.wrFbl i v) s = .next (withErr s (s.voice.err ||| 0b10))) ∧
      (v.toNat ≤ 255 → ∃ t, exec (.wrFbl i v) s = .next t ∧
        OnlyOp i { s.voice.op i with fbl := v.setWidth 8 } s t)) ∧
    (decode (.host (hostWord (BitVec.ofNat 8 (0x80 + 32 * i.bits.toNat + 8)) v)) = .ok (.wrSusen i v) ∧
      (1 < v.toNat → exec (.wrSusen i v) s = .next (withErr s (s.voice.err ||| 0b10))) ∧
      (v.toNat ≤ 1 → ∃ t, exec (.wrSusen i v) s = .next t ∧
        OnlyOp i { s.voice.op i with eg := { (s.voice.op i).eg with susen := decide (v.toNat = 1) } } s t)) ∧
    (decode (.host (hostWord (BitVec.ofNat 8 (0x80 + 32 * i.bits.toNat + 9)) v)) = .ok (.wrDiv i v) ∧
      (65535 < v.toNat → exec (.wrDiv i v) s = .next (withErr s (s.voice.err ||| 0b10))) ∧
      (v.toNat ≤ 65535 → ∃ t, exec (.wrDiv i v) s = .next t ∧
        OnlyOp i { s.voice.op i with eg := { (s.voice.op i).eg with div := v.setWidth 16 } } s t))

/-- R286 to R290: the 32-bit operator registers take every value. -/
def Obligations.WrWideRegisters : Prop :=
  ∀ (i : OpIdx) (v : Fx) (s : State),
    (decode (.host (hostWord (BitVec.ofNat 8 (0x80 + 32 * i.bits.toNat + 3)) v)) = .ok (.wrTune i v) ∧
      ∃ t, exec (.wrTune i v) s = .next t ∧
        OnlyOp i { s.voice.op i with pg := { (s.voice.op i).pg with tune := v } } s t) ∧
    (decode (.host (hostWord (BitVec.ofNat 8 (0x80 + 32 * i.bits.toNat + 4)) v)) = .ok (.wrAr i v) ∧
      ∃ t, exec (.wrAr i v) s = .next t ∧
        OnlyOp i { s.voice.op i with eg := { (s.voice.op i).eg with ar := v } } s t) ∧
    (decode (.host (hostWord (BitVec.ofNat 8 (0x80 + 32 * i.bits.toNat + 5)) v)) = .ok (.wrDr i v) ∧
      ∃ t, exec (.wrDr i v) s = .next t ∧
        OnlyOp i { s.voice.op i with eg := { (s.voice.op i).eg with dr := v } } s t) ∧
    (decode (.host (hostWord (BitVec.ofNat 8 (0x80 + 32 * i.bits.toNat + 6)) v)) = .ok (.wrRr i v) ∧
      ∃ t, exec (.wrRr i v) s = .next t ∧
        OnlyOp i { s.voice.op i with eg := { (s.voice.op i).eg with rr := v } } s t) ∧
    (decode (.host (hostWord (BitVec.ofNat 8 (0x80 + 32 * i.bits.toNat + 7)) v)) = .ok (.wrSl i v) ∧
      ∃ t, exec (.wrSl i v) s = .next t ∧
        OnlyOp i { s.voice.op i with eg := { (s.voice.op i).eg with sl := v } } s t)

/-! ### TICK -/

/-- R255 to R258: each operator in index order is modulated by the register its source names, as left by the operators
before it, and its output goes to its sink; the sample is the register operator 3 sank into. For every content of
the tables. -/
def Obligations.TickRoutesInIndexOrder : Prop :=
  ∀ (c : Config) (v : Voice), ∃ y0 y1 y2 y3 : Fx,
    ((tick c v).op0, y0) = opSample c { v.op0 with modin := readScratch (v.route c .o0).src (0, 0) } ∧
    ((tick c v).op1, y1) = opSample c { v.op1 with
      modin := readScratch (v.route c .o1).src (scratchAfter [((v.route c .o0).snk, y0)]) } ∧
    ((tick c v).op2, y2) = opSample c { v.op2 with
      modin := readScratch (v.route c .o2).src
        (scratchAfter [((v.route c .o0).snk, y0), ((v.route c .o1).snk, y1)]) } ∧
    ((tick c v).op3, y3) = opSample c { v.op3 with
      modin := readScratch (v.route c .o3).src
        (scratchAfter [((v.route c .o0).snk, y0), ((v.route c .o1).snk, y1), ((v.route c .o2).snk, y2)]) } ∧
    ((tick c v).out, (tick c v).adr) =
      scratchAfter [((v.route c .o0).snk, y0), ((v.route c .o1).snk, y1), ((v.route c .o2).snk, y2),
        ((v.route c .o3).snk, y3)] ∧
    (tick c v).smp = readScratch (v.route c .o3).snk ((tick c v).out, (tick c v).adr) ∧
    (tick c v).alg = v.alg ∧ (tick c v).err = v.err

/-- R255, R261: TICK completes in every state; modulations, sample, `OUT` and `ADR` under each of the eight algorithms
of the reference table; outside the voice only the pulse on `sample_valid` is written (its form in the state:
assumption 6). -/
def Obligations.TickUnderEachAlgorithm : Prop :=
  ∀ s : State, ∃ (t : State) (m y : OpIdx → Fx), exec .tick s = .next t ∧
    t = { s with voice := t.voice, sampleValid := true } ∧
    (∀ i, (t.voice.op i, y i) = opSample Config.reference { s.voice.op i with modin := m i }) ∧
    (∀ i, (t.voice.op i).modin = m i) ∧
    t.voice.alg = s.voice.alg ∧ t.voice.err = s.voice.err ∧ m .o0 = 0 ∧
    (s.voice.alg = 0 → m .o1 = y .o0 ∧ m .o2 = y .o1 ∧ m .o3 = y .o2 ∧
      t.voice.smp = y .o3 ∧ t.voice.out = y .o3 ∧ t.voice.adr = 0) ∧
    (s.voice.alg = 1 → m .o1 = y .o0 ∧ m .o2 = 0 ∧ m .o3 = y .o2 ∧
      t.voice.smp = y .o1 + y .o3 ∧ t.voice.out = y .o2 ∧ t.voice.adr = y .o1 + y .o3) ∧
    (s.voice.alg = 2 → m .o1 = y .o0 ∧ m .o2 = y .o1 ∧ m .o3 = y .o1 ∧
      t.voice.smp = y .o2 + y .o3 ∧ t.voice.out = y .o1 ∧ t.voice.adr = y .o2 + y .o3) ∧
    (s.voice.alg = 3 → m .o1 = y .o0 ∧ m .o2 = y .o0 ∧ m .o3 = y .o0 ∧
      t.voice.smp = y .o1 + y .o2 + y .o3 ∧ t.voice.out = y .o0 ∧ t.voice.adr = y .o1 + y .o2 + y .o3) ∧
    (s.voice.alg = 4 → m .o1 = 0 ∧ m .o2 = y .o0 + y .o1 ∧ m .o3 = y .o2 ∧
      t.voice.smp = y .o3 ∧ t.voice.out = y .o3 ∧ t.voice.adr = y .o0 + y .o1) ∧
    (s.voice.alg = 5 → m .o1 = y .o0 ∧ m .o2 = y .o0 + y .o1 ∧ m .o3 = y .o2 ∧
      t.voice.smp = y .o3 ∧ t.voice.out = y .o3 ∧ t.voice.adr = y .o0 + y .o1) ∧
    (s.voice.alg = 6 → m .o1 = y .o0 ∧ m .o2 = y .o1 ∧ m .o3 = 0 ∧
      t.voice.smp = y .o2 + y .o3 ∧ t.voice.out = y .o1 ∧ t.voice.adr = y .o2 + y .o3) ∧
    (s.voice.alg = 7 → m .o1 = 0 ∧ m .o2 = 0 ∧ m .o3 = 0 ∧
      t.voice.smp = y .o0 + y .o1 + y .o2 + y .o3 ∧ t.voice.out = 0 ∧
      t.voice.adr = y .o0 + y .o1 + y .o2 + y .o3)

/-- R45, R282, R309: TICK writes no configuration register and no error flag. -/
def Obligations.TickKeepsConfiguration : Prop :=
  ∀ s t : State, exec .tick s = .next t →
    t.voice.alg = s.voice.alg ∧ t.voice.err = s.voice.err ∧ t.aluY = s.aluY ∧ t.waveY = s.waveY ∧
    t.inputs = s.inputs ∧ ∀ i, SameConfig (s.voice.op i) (t.voice.op i)

/-- R25, R26, R27, R29, R256: a TICK reads none of `OUT`, `ADR`, `SMP`, `MODIN` as an earlier TICK left them. -/
def Obligations.TickIgnoresOldScratch : Prop :=
  ∀ (c : Config) (v v' : Voice), AgreeForTick v v' → tick c v' = tick c v

/-- R334: after n TICKs from reset every `ACC` is n mod 65536 and every other register is as at reset. -/
def Obligations.TicksFromReset : Prop :=
  ∀ n : Nat, ∃ t : State,
    core.run n { State.reset with inputs := List.replicate n (.present (.host 0x0100000000)) } = .next t ∧
    t.voice.alg = 0 ∧ t.voice.out = 0 ∧ t.voice.adr = 0 ∧ t.voice.smp = 0 ∧ t.voice.err = 0 ∧
    ∀ i, t.voice.op i =
      { State.reset.voice.op i with pg := { (State.reset.voice.op i).pg with acc := BitVec.ofNat 16 n } }

/-! ### The ALU

That a stand-alone ALU's result stands in the state as `aluY` is the model's form (assumption 2). -/

/-- R124, R125: ADD and SUB wrap modulo 2^32; SUB(a, b) = ADD(a, SUB(0, b)); `aluY` (assumption 2)
is all that changes. -/
def Obligations.AluAddSub : Prop :=
  ∀ (a b : Fx) (s : State),
    decode (.alu 0 a b) = .ok (.aluAdd a b) ∧ exec (.aluAdd a b) s = .next { s with aluY := a + b } ∧
    decode (.alu 1 a b) = .ok (.aluSub a b) ∧ exec (.aluSub a b) s = .next { s with aluY := a - b } ∧
    fxAdd a b = a + b ∧ fxSub a b = a - b ∧ fxAdd a b = fxAdd b a ∧ fxSub a b = fxAdd a (fxSub 0 b)

/-- R126: MUL is the 64-bit signed product shifted right arithmetically by 16, low 32 bits; it is the floor of the exact
product where that fits; it is commutative; only `aluY` (assumption 2) changes. -/
def Obligations.AluMulWidensShiftsNarrows : Prop :=
  ∀ (a b : Fx) (s : State), decode (.alu 2 a b) = .ok (.aluMul a b) ∧
    ∃ y : Fx, exec (.aluMul a b) s = .next { s with aluY := y } ∧
      y = ((a.signExtend 64 * b.signExtend 64).sshiftRight 16).setWidth 32 ∧
      (-2147483648 ≤ a.toInt * b.toInt / 65536 → a.toInt * b.toInt / 65536 < 2147483648 →
        y.toInt = a.toInt * b.toInt / 65536) ∧
      fxMul a b = y ∧ fxMul a b = fxMul b a

/-- R136: the table of MUL at every sign combination and at the corners. -/
def Obligations.MulCornerTable : Prop :=
  fxMul 0x00010000 0x00020000 = 0x00020000 ∧ fxMul 0x00018000 0x00018000 = 0x00024000 ∧
  fxMul 0x00000001 0x00000001 = 0x00000000 ∧ fxMul 0xFFFFFFFF 0x00000001 = 0xFFFFFFFF ∧
  fxMul 0xFFFFFFFF 0xFFFFFFFF = 0x00000000 ∧ fxMul 0xFFFF8000 0x00000001 = 0xFFFFFFFF ∧
  fxMul 0xFFFF8000 0x00000003 = 0xFFFFFFFE ∧ fxMul 0x00008000 0x00000003 = 0x00000001 ∧
  fxMul 0xFFFF0000 0x00010000 = 0xFFFF0000 ∧ fxMul 0xFFFF0000 0xFFFF0000 = 0x00010000 ∧
  fxMul 0x7FFFFFFF 0x7FFFFFFF = 0xFFFF0000 ∧ fxMul 0x80000000 0x80000000 = 0x00000000 ∧
  fxMul 0x80000000 0x00010000 = 0x80000000 ∧ fxMul 0x01000000 0x01000000 = 0x00000000 ∧
  (∀ b : Fx, fxMul 0 b = 0 ∧ fxMul 0x00010000 b = b ∧ fxMul 0xFFFF0000 b = fxNeg b ∧ fxNeg b = -b)

/-- R127: MULI is the low 32 bits of the product with a plain integer; only `aluY` (assumption 2) changes. -/
def Obligations.AluMuliNoRescale : Prop :=
  ∀ (a k : BitVec 32) (s : State), decode (.alu 3 a k) = .ok (.aluMuli a k) ∧
    exec (.aluMuli a k) s = .next { s with aluY := a * k }

/-- R128, R129: SHL loses bits at the top, SHR copies the sign and floors; only `b[4:0]` counts; only `aluY`
(assumption 2) changes. -/
def Obligations.AluShifts : Prop :=
  ∀ (a b : Fx) (s : State),
    decode (.alu 4 a b) = .ok (.aluShl a b) ∧ exec (.aluShl a b) s = .next { s with aluY := a <<< (b.toNat % 32) } ∧
    decode (.alu 5 a b) = .ok (.aluShr a b) ∧
    ∃ y : Fx, exec (.aluShr a b) s = .next { s with aluY := y } ∧ y = a.sshiftRight (b.toNat % 32) ∧
      y.toInt = a.toInt / 2 ^ (b.toNat % 32)

/-- R121, R130, R131: AND, FRAC as the reduction modulo 1, FROMI exact on small integers and wrapping outside;
only `aluY` (assumption 2) changes. -/
def Obligations.AluMasksAndConstruction : Prop :=
  ∀ (a b k : BitVec 32) (s : State),
    decode (.alu 6 a b) = .ok (.aluAnd a b) ∧ exec (.aluAnd a b) s = .next { s with aluY := a &&& b } ∧
    decode (.alu 7 a b) = .ok (.aluFrac a) ∧
    (∃ y : Fx, exec (.aluFrac a) s = .next { s with aluY := y } ∧ y.toInt = a.toInt % 65536) ∧
    decode (.alu 8 k b) = .ok (.aluFromi k) ∧
    (∃ y : Fx, exec (.aluFromi k) s = .next { s with aluY := y } ∧
      y.toInt = 65536 * (k.setWidth 16).toInt ∧
      (-32768 ≤ k.toInt → k.toInt ≤ 32767 → y.toInt = 65536 * k.toInt))

/-- R132, R133: EQ and LT of the raw signed integers, as 0 or 1; exactly one of LT(a, b), EQ(a, b), LT(b, a) holds; only
`aluY` (assumption 2) changes. -/
def Obligations.AluComparisons : Prop :=
  ∀ (a b : Fx) (s : State),
    decode (.alu 9 a b) = .ok (.aluEq a b) ∧
    exec (.aluEq a b) s = .next { s with aluY := if a.toInt = b.toInt then 1 else 0 } ∧
    decode (.alu 10 a b) = .ok (.aluLt a b) ∧
    exec (.aluLt a b) s = .next { s with aluY := if a.toInt < b.toInt then 1 else 0 } ∧
    (fxEq a b = true ↔ a.toInt = b.toInt) ∧ (fxLt a b = true ↔ a.toInt < b.toInt) ∧
    (fxLt a b).toNat + (fxEq a b).toNat + (fxLt b a).toNat = 1

/-- R122, R123: FROM_FLOAT is defined exactly on [-32768, 32768); its raw value is 65536 x truncated toward zero, for both
signs; TO_FLOAT reads it back within 1/65536. -/
def Obligations.FloatRoundTrip : Prop :=
  ∀ x : ℚ, ((∃ v, fromFloat x = some v) ↔ -32768 ≤ x ∧ x < 32768) ∧
    ∀ v, fromFloat x = some v →
      (0 ≤ x → v.toInt = ⌊x * 65536⌋) ∧ (x ≤ 0 → v.toInt = ⌈x * 65536⌉) ∧
      toFloat v = (v.toInt : ℚ) / 65536 ∧ |toFloat v - x| < 1 / 65536

/-! ### Lookups -/

/-- R150: LERP16 is the floored weighted mean, between its entries, and the left entry when the fraction is 0. -/
def Obligations.LerpStaysBetween : Prop :=
  ∀ (e0 e1 : U16) (f : BitVec 4),
    (lerp16 e0 e1 f).toNat = (e0.toNat * (16 - f.toNat) + e1.toNat * f.toNat) / 16 ∧
    min e0.toNat e1.toNat ≤ (lerp16 e0 e1 f).toNat ∧ (lerp16 e0 e1 f).toNat ≤ max e0.toNat e1.toNat ∧
    lerp16 e0 e1 0 = e0

/-- R151, R153: SINQ is LERP16 of the entries at `a >> 4` and beside it, the guard entry itself at the end of its domain,
for every table; with the reference table it is non-decreasing over its whole domain. -/
def Obligations.SinqNonDecreasing : Prop :=
  (∀ (c : Config) (a : Fin 16385) (i j : Fin 1025), i.val = a.val / 16 → j.val = i.val + 1 →
    sinq c a = lerp16 (c.sinRom i) (c.sinRom j) (BitVec.ofNat 4 (a.val % 16))) ∧
  (∀ c : Config, sinq c 16384 = c.sinRom 1024) ∧
  (∀ a b : Fin 16385, a ≤ b → (sinq Config.reference a).toNat ≤ (sinq Config.reference b).toNat)

/-- R154, R156: the mantissa of EXP2 is 1.0 plus LERP16 of the entries at `F[15:6]` and beside it, fraction `F[5:2]`; the
shift stage at every integer part, for every table content. -/
def Obligations.Exp2ShiftStage : Prop :=
  ∀ (c : Config) (x : Fx),
    (0 ≤ x.toInt / 65536 → x.toInt / 65536 ≤ 14 →
      (exp2 c x).toInt = exp2Mantissa c (x.setWidth 16) * 2 ^ (x.toInt / 65536).toNat) ∧
    (x.toInt / 65536 = 15 →
      (exp2 c x).toInt = exp2Mantissa c (x.setWidth 16) * 2 ^ 15 - 2 ^ 32 ∧ (exp2 c x).toInt < 0) ∧
    (15 ≤ x.toInt / 65536 → x.toInt / 65536 ≤ 31 →
      (exp2 c x).toNat = exp2Mantissa c (x.setWidth 16) * 2 ^ (x.toInt / 65536).toNat % 2 ^ 32) ∧
    (32 ≤ x.toInt / 65536 → exp2 c x = 0) ∧
    (x.toInt / 65536 ≤ -17 → exp2 c x = 0) ∧
    (-16 ≤ x.toInt / 65536 → x.toInt / 65536 ≤ -1 →
      (exp2 c x).toInt = exp2Mantissa c (x.setWidth 16) / 2 ^ (-(x.toInt / 65536)).toNat) ∧
    (∀ i j : Fin 1025, i.val = x.toNat % 65536 / 64 → j.val = i.val + 1 →
      exp2Mantissa c (x.setWidth 16) =
        65536 + (lerp16 (c.expRom i) (c.expRom j) (BitVec.ofNat 4 (x.toNat / 4 % 16))).toNat) ∧
    65536 ≤ exp2Mantissa c (x.setWidth 16) ∧ exp2Mantissa c (x.setWidth 16) ≤ 131071

/-- R157: EXP2(k * 65536) = 65536 * 2^k for k = -16 to 14. -/
def Obligations.Exp2ExactPowers : Prop :=
  ∀ k : Fin 31, ((exp2 Config.reference (s32 ((k.val - 16 : Int) * 65536))).toNat) * 2 ^ 16 = 65536 * 2 ^ k.val

/-- R157: with the reference table EXP2 is non-decreasing over -16.0 <= real(x) < 15.0. -/
def Obligations.Exp2NonDecreasing : Prop :=
  ∀ x y : Fx, -1048576 ≤ x.toInt → x.toInt ≤ y.toInt → y.toInt < 983040 →
    (exp2 Config.reference x).toInt ≤ (exp2 Config.reference y).toInt

/-! ### Phase generator -/

/-- R171, R177: PG.UPDATE advances `ACC` by EXP2(PITCH + TUNE - LOG2_FS) modulo 65536 and returns the new `ACC` plus the
modulation modulo 65536; `PITCH` and `TUNE` stay, and the modulation does not reach `ACC`. -/
def Obligations.PhaseUpdateLaw : Prop :=
  ∀ (c : Config) (g : PhaseGen) (m : Fx),
    (phaseUpdate c g m).1.acc.toNat = (g.acc.toNat + (exp2 c (g.pitch + g.tune - c.log2Fs)).toNat) % 65536 ∧
    (phaseUpdate c g m).2.toNat = ((phaseUpdate c g m).1.acc.toNat + m.toNat) % 65536 ∧
    (phaseUpdate c g m).1.pitch = g.pitch ∧ (phaseUpdate c g m).1.tune = g.tune

/-- R174: under TICKs alone `ACC` after k of them is (ACC + k * inc) mod 65536, whatever the routing, the modulation and
the feedback; it is back at its start exactly at the multiples of 65536 / gcd(inc, 65536). -/
def Obligations.AccumulatorIsPeriodic : Prop :=
  ∀ (c : Config) (v : Voice) (i : OpIdx) (k : Nat),
    (((tick c)^[k] v).op i).pg.acc.toNat =
      ((v.op i).pg.acc.toNat + k * (phaseIncrement c (v.op i).pg).toNat) % 65536 ∧
    ((((tick c)^[k] v).op i).pg.acc = (v.op i).pg.acc ↔
      65536 / Nat.gcd (phaseIncrement c (v.op i).pg).toNat 65536 ∣ k)

/-! ### Envelope generator -/

/-- R192 to R195: the four cases of EG.UPDATE. -/
def Obligations.EnvelopeUpdateCases : Prop :=
  ∀ (c : Config) (e : EnvGen),
    (e.st = .attack → envUpdate c e =
      if 65536 ≤ (c.envUpper - exp2 c (e.idx - e.ar)).toInt ∨ (e.idx - e.ar).toInt ≤ c.envFloor.toInt then
        { e with lvl := 0x00010000, st := .decay, idx := c.envStart }
      else { e with idx := e.idx - e.ar, lvl := c.envUpper - exp2 c (e.idx - e.ar) }) ∧
    (e.st = .decay → envUpdate c e =
      if (exp2 c (e.idx - e.dr) - c.envLower).toInt ≤ e.sl.toInt ∨ (e.idx - e.dr).toInt ≤ c.envFloor.toInt then
        { e with
          idx := e.idx - e.dr
          lvl := exp2 c (e.idx - e.dr) - c.envLower
          st := if e.susen = true then .sustain else .release }
      else { e with idx := e.idx - e.dr, lvl := exp2 c (e.idx - e.dr) - c.envLower }) ∧
    (e.st = .release → envUpdate c e =
      if (exp2 c (e.idx - e.rr) - c.envLower).toInt ≤ 0 ∨ (e.idx - e.rr).toInt ≤ c.envFloor.toInt then
        { e with lvl := 0, st := .idle, idx := c.envStart }
      else { e with idx := e.idx - e.rr, lvl := exp2 c (e.idx - e.rr) - c.envLower }) ∧
    (e.st = .sustain → envUpdate c e = e) ∧ (e.st = .idle → envUpdate c e = e)

/-- R190, R343: from every `CNT` the hardware can hold, a call of EG.SAMPLE whose count stays below `DIV` only counts, so
the update comes at call `DIV` - `CNT`, which with `CNT` = 0 is call `DIV`; a call whose count reaches `DIV` updates at
once and clears the counter, also after the host lowered `DIV` below `CNT`, and always with `DIV` 0 or 1. -/
def Obligations.DividerPeriod : Prop :=
  ∀ (c : Config) (e : EnvGen),
    (∀ k, e.cnt.toNat + k < e.div.toNat →
      (envAdvance c)^[k] e = { e with cnt := BitVec.ofNat 16 (e.cnt.toNat + k) }) ∧
    (e.cnt.toNat < e.div.toNat →
      (envAdvance c)^[e.div.toNat - e.cnt.toNat] e = envUpdate c { e with cnt := 0 }) ∧
    (e.cnt.toNat ≤ 65534 → e.div.toNat ≤ e.cnt.toNat + 1 → envAdvance c e = envUpdate c { e with cnt := 0 }) ∧
    (envSample c e).1 = envAdvance c e ∧ (envSample c e).2 = (envSample c e).1.lvl

/-- R189: every result of SEARCH is a multiple of 128 and not of 256, in [0x0080, 0xFF80], for every table. -/
def Obligations.SearchResultForm : Prop :=
  ∀ (c : Config) (lvl : Fx), c.envFloor = 0 → c.envStart = 0x00010000 →
    (search c lvl).toNat % 256 = 128 ∧ 0x0080 ≤ (search c lvl).toNat ∧ (search c lvl).toNat ≤ 0xFF80

/-- R189: with the reference constants and tables, the level at the found index is within 177 units of the level searched
for, for every level in [0, 1.0]; a level outside ends at the extreme result on its side. -/
def Obligations.SearchWithinEpsilon : Prop :=
  ∀ lvl : Fx,
    (0 ≤ lvl.toInt → lvl.toInt ≤ 65536 →
      |(exp2 Config.reference (search Config.reference lvl) - 0x00010000).toInt - lvl.toInt| ≤ 177) ∧
    (lvl.toInt < 0 → search Config.reference lvl = 0x00000080) ∧
    (65536 < lvl.toInt → search Config.reference lvl = 0x0000FF80)

/-- R40, R196 (b): reset meets the envelope invariant. -/
def Obligations.ResetMeetsEnvInv : Prop := EnvInv State.reset

/-- R40, R196 (b): every step keeps the envelope invariant. -/
def Obligations.StepKeepsEnvInv : Prop := ∀ s t : State, EnvInv s → step s = .next t → EnvInv t

/-- R196 (its table, (c), (d); conflict C1): without `rst` a step enters Idle only from Release, Sustain only from Decay
with `SUSEN` = 1, Decay only from Attack, Attack only by NOTE_ON, and Release only by NOTE_OFF or from Decay with `SUSEN`
= 0. -/
def Obligations.EnvelopeEntries : Prop :=
  ∀ (s t : State) (i : OpIdx), NoReset s → step s = .next t →
    ((t.voice.op i).eg.st = .idle → (s.voice.op i).eg.st = .idle ∨ (s.voice.op i).eg.st = .release) ∧
    ((t.voice.op i).eg.st = .sustain → (s.voice.op i).eg.st = .sustain ∨
      ((s.voice.op i).eg.st = .decay ∧ (s.voice.op i).eg.susen = true)) ∧
    ((t.voice.op i).eg.st = .decay → (s.voice.op i).eg.st = .decay ∨ (s.voice.op i).eg.st = .attack) ∧
    ((t.voice.op i).eg.st = .attack → (s.voice.op i).eg.st = .attack ∨
      ∃ pitch rest, s.inputs = .present (.host (hostWord 0x02 pitch)) :: rest) ∧
    ((t.voice.op i).eg.st = .release → (s.voice.op i).eg.st = .release ∨
      ((s.voice.op i).eg.st = .decay ∧ (s.voice.op i).eg.susen = false) ∨
      ∃ data rest, s.inputs = .present (.host (hostWord 0x03 data)) :: rest)

/-- R197, R347: after NOTE_ON an envelope with a strictly positive attack rate reaches Decay within
ceil(65536 / AR) * max(DIV, 1) TICKs, from every state whose `CNT` the hardware can hold. -/
def Obligations.AttackReachesDecay : Prop :=
  ∀ (s : State) (pitch : Fx) (i : OpIdx),
    0 < (s.voice.op i).eg.ar.toInt → (s.voice.op i).eg.cnt.toNat ≤ 65534 →
    ∃ k, k ≤ (65536 + (s.voice.op i).eg.ar.toNat - 1) / (s.voice.op i).eg.ar.toNat * max (s.voice.op i).eg.div.toNat 1 ∧
      ∃ t : State, core.run (k + 1) { s with
        inputs := .present (.host (hostWord 0x02 pitch)) :: List.replicate k (.present (.host 0x0100000000)) } = .next t ∧
        (t.voice.op i).eg.st = .decay

/-- R194, R197, R347: a Release with a strictly positive rate reaches Idle, at level 0: from a positive index within
ceil(IDX / RR) updates, and from an index at or below the floor (R198: a Decay that overshot it) at the next update,
where IDX - RR does not wrap. -/
def Obligations.ReleaseReachesIdle : Prop :=
  ∀ e : EnvGen, e.st = .release → 0 < e.rr.toInt →
    (0 < e.idx.toInt →
      ∃ k, k ≤ (e.idx.toNat + e.rr.toNat - 1) / e.rr.toNat ∧ ((envUpdate Config.reference)^[k] e).st = .idle ∧
        ((envUpdate Config.reference)^[k] e).lvl = 0) ∧
    (e.idx.toInt ≤ 0 → -2147483648 ≤ e.idx.toInt - e.rr.toInt →
      envUpdate Config.reference e = { e with st := .idle, idx := 0x00010000, lvl := 0 })

/-! ### Waveforms

That the stand-alone waveform unit's result stands in the state as `waveY` is the model's form (assumption 3). -/

/-- R221, R222, R223: FullSine, HalfSine and DblHalfSine per quadrant, at every phase; `w` is the sub-phase; only `waveY`
(assumption 3) changes. -/
def Obligations.SineShapes : Prop :=
  ∀ (s : State) (p : U16) (a : Fin 16385),
    (p.toNat / 16384 = 0 → a.val = p.toNat % 16384 →
      exec (.waveFullSine p) s = .next { s with waveY := (sinq Config.reference a).setWidth 32 } ∧
      exec (.waveHalfSine p) s = .next { s with waveY := (sinq Config.reference a).setWidth 32 } ∧
      exec (.waveDblHalfSine p) s = .next { s with waveY := (sinq Config.reference a).setWidth 32 }) ∧
    (p.toNat / 16384 = 1 → a.val = 16384 - p.toNat % 16384 →
      exec (.waveFullSine p) s = .next { s with waveY := (sinq Config.reference a).setWidth 32 } ∧
      exec (.waveHalfSine p) s = .next { s with waveY := (sinq Config.reference a).setWidth 32 } ∧
      exec (.waveDblHalfSine p) s = .next { s with waveY := (sinq Config.reference a).setWidth 32 }) ∧
    (p.toNat / 16384 = 2 → a.val = p.toNat % 16384 →
      exec (.waveFullSine p) s = .next { s with waveY := -(sinq Config.reference a).setWidth 32 } ∧
      exec (.waveHalfSine p) s = .next { s with waveY := 0 } ∧
      exec (.waveDblHalfSine p) s = .next { s with waveY := (sinq Config.reference a).setWidth 32 }) ∧
    (p.toNat / 16384 = 3 → a.val = 16384 - p.toNat % 16384 →
      exec (.waveFullSine p) s = .next { s with waveY := -(sinq Config.reference a).setWidth 32 } ∧
      exec (.waveHalfSine p) s = .next { s with waveY := 0 } ∧
      exec (.waveDblHalfSine p) s = .next { s with waveY := (sinq Config.reference a).setWidth 32 })

/-- R224, R228: DblQuartSine and Square per quadrant, at every phase; only `waveY` (assumption 3) changes. -/
def Obligations.QuarterAndSquareShapes : Prop :=
  ∀ (s : State) (p : U16) (a : Fin 16385), a.val = p.toNat % 16384 →
    (p.toNat / 16384 = 0 →
      exec (.waveDblQuartSine p) s = .next { s with waveY := (sinq Config.reference a).setWidth 32 } ∧
      exec (.waveSquare p) s = .next { s with waveY := 0x00010000 }) ∧
    (p.toNat / 16384 = 1 →
      exec (.waveDblQuartSine p) s = .next { s with waveY := 0 } ∧
      exec (.waveSquare p) s = .next { s with waveY := 0x00010000 }) ∧
    (p.toNat / 16384 = 2 →
      exec (.waveDblQuartSine p) s = .next { s with waveY := -(sinq Config.reference a).setWidth 32 } ∧
      exec (.waveSquare p) s = .next { s with waveY := 0xFFFF0000 }) ∧
    (p.toNat / 16384 = 3 →
      exec (.waveDblQuartSine p) s = .next { s with waveY := 0 } ∧
      exec (.waveSquare p) s = .next { s with waveY := 0xFFFF0000 })

/-- R220, R225, R226: FastSine and FastHalfSine per quadrant, at every phase; the sub-phase is folded; only `waveY`
(assumption 3) changes. -/
def Obligations.FastShapes : Prop :=
  ∀ (s : State) (p : U16) (a : Fin 16385),
    a.val = (if p.toNat % 16384 < 8192 then 2 * (p.toNat % 16384) else 2 * (16384 - p.toNat % 16384)) →
    (p.toNat / 16384 = 0 →
      exec (.waveFastSine p) s = .next { s with waveY := (sinq Config.reference a).setWidth 32 } ∧
      exec (.waveFastHalfSine p) s = .next { s with waveY := (sinq Config.reference a).setWidth 32 }) ∧
    (p.toNat / 16384 = 1 →
      exec (.waveFastSine p) s = .next { s with waveY := -(sinq Config.reference a).setWidth 32 } ∧
      exec (.waveFastHalfSine p) s = .next { s with waveY := (sinq Config.reference a).setWidth 32 }) ∧
    (2 ≤ p.toNat / 16384 →
      exec (.waveFastSine p) s = .next { s with waveY := 0 } ∧
      exec (.waveFastHalfSine p) s = .next { s with waveY := 0 })

/-- R227: Sawish per quadrant, at every phase; h is half the sub-phase; only `waveY` (assumption 3) changes. -/
def Obligations.SawishShape : Prop :=
  ∀ (s : State) (p : U16) (a : Fin 16385),
    (p.toNat / 16384 = 0 → a.val = p.toNat % 16384 / 2 →
      exec (.waveSawish p) s = .next { s with waveY := (sinq Config.reference a).setWidth 32 }) ∧
    (p.toNat / 16384 = 1 → a.val = 8192 + p.toNat % 16384 / 2 →
      exec (.waveSawish p) s = .next { s with waveY := (sinq Config.reference a).setWidth 32 }) ∧
    (p.toNat / 16384 = 2 → a.val = 16384 - p.toNat % 16384 / 2 →
      exec (.waveSawish p) s = .next { s with waveY := -(sinq Config.reference a).setWidth 32 }) ∧
    (p.toNat / 16384 = 3 → a.val = 8192 - p.toNat % 16384 / 2 →
      exec (.waveSawish p) s = .next { s with waveY := -(sinq Config.reference a).setWidth 32 })

/-- R223, R226, R229, R231: WAVE(sel, p), which OP.SAMPLE reads, dispatches each of the eight shapes to the function its
selector has on the stand-alone unit (`waveY`: assumption 3); and for every table FullSine is odd under a half-period
shift, DblHalfSine is its absolute value, FastHalfSine the absolute value of FastSine, and no shape leaves [-1.0, 1.0]. -/
def Obligations.WaveSymmetriesAndRange : Prop :=
  (∀ (s : State) (p : U16),
    exec (.waveFullSine p) s = .next { s with waveY := waveform Config.reference .fullSine p } ∧
    exec (.waveHalfSine p) s = .next { s with waveY := waveform Config.reference .halfSine p } ∧
    exec (.waveDblHalfSine p) s = .next { s with waveY := waveform Config.reference .dblHalfSine p } ∧
    exec (.waveDblQuartSine p) s = .next { s with waveY := waveform Config.reference .dblQuartSine p } ∧
    exec (.waveFastSine p) s = .next { s with waveY := waveform Config.reference .fastSine p } ∧
    exec (.waveFastHalfSine p) s = .next { s with waveY := waveform Config.reference .fastHalfSine p } ∧
    exec (.waveSawish p) s = .next { s with waveY := waveform Config.reference .sawish p } ∧
    exec (.waveSquare p) s = .next { s with waveY := waveform Config.reference .square p }) ∧
  (∀ (c : Config) (p : U16),
    waveform c .fullSine (p ^^^ 0x8000) = -waveform c .fullSine p ∧
    (waveform c .dblHalfSine p).toInt = |(waveform c .fullSine p).toInt| ∧
    (waveform c .fastHalfSine p).toInt = |(waveform c .fastSine p).toInt| ∧
    ∀ sel, |(waveform c sel p).toInt| ≤ 65536)

/-! ### Operator -/

/-- R240: OP.SAMPLE: the accumulator, the envelope and the feedback register are written and nothing else; the wave is
taken at (ACC after + MODIN + FB) mod 65536; the output is 0 when muted, else the two products in order. -/
def Obligations.OperatorSampleLaw : Prop :=
  ∀ (c : Config) (o : Operator) (p : U16),
    p.toNat = ((opSample c o).1.pg.acc.toNat + o.modin.toNat + o.fb.toNat) % 65536 →
    (opSample c o).2 = (if (envSample c o.eg).2 = 0 ∨ o.tl = 0 then 0
      else fxMul (fxMul (waveform c o.wave p) (envSample c o.eg).2) (c.scale8 o.tl)) ∧
    (opSample c o).1 = { o with
      pg := { o.pg with acc := (opSample c o).1.pg.acc }
      eg := (envSample c o.eg).1
      fb := fxMul (opSample c o).2 (c.scale8 o.fbl) } ∧
    (opSample c o).1.pg = (phaseUpdate c o.pg 0).1

/-- R241: SCALE8 is floor(v * 65536 / 255), 0 at 0 and exactly 1.0 at 255. -/
def Obligations.ScaleOfLevel : Prop :=
  (∀ v : BitVec 8, (Config.reference.scale8 v).toNat = v.toNat * 65536 / 255) ∧
  Config.reference.scale8 0 = 0 ∧ Config.reference.scale8 255 = 0x00010000

/-- R242: a total level of 0 silences an operator and its feedback in every sample, whatever its waveform and envelope
state; so does an envelope level of 0. -/
def Obligations.SilenceGuarantee : Prop :=
  ∀ (c : Config) (o : Operator), (o.tl = 0 ∨ (envSample c o.eg).2 = 0) →
    (opSample c o).2 = 0 ∧ (opSample c o).1.fb = 0

/-- R243: with a level in [0, 1.0] the output and the feedback stay in [-1.0, 1.0]. -/
def Obligations.OperatorOutputRange : Prop :=
  ∀ o : Operator, 0 ≤ (envSample Config.reference o.eg).2.toInt → (envSample Config.reference o.eg).2.toInt ≤ 65536 →
    |(opSample Config.reference o).2.toInt| ≤ 65536 ∧ |(opSample Config.reference o).1.fb.toInt| ≤ 65536

/-! ### The ordinary operating range -/

/-- R198: with strictly positive rates and ordinary pitches (bounds: assumption 22), every step but one that takes `rst`
keeps index, level and feedback in range: with no input, on a rejected word, and on every instruction that writes no
pitch, tuning or rate outside those bounds. -/
def Obligations.NormalVoiceIsKept : Prop :=
  ∀ s t : State, NormalVoice s.voice → NoReset s →
    (∀ (w : PortWord) (rest : List Input) (i : Instr), s.inputs = .present w :: rest → decode w = .ok i →
      normalInstr i) →
    step s = .next t → NormalVoice t.voice

/-- R138, R307, U1: in the ordinary operating range (bounds: assumption 22) no ADD, SUB or MUL of a TICK wraps, so TICK
completes with the same next state under both overflow policies. -/
def Obligations.NormalTickNeverWraps : Prop :=
  ∀ s : State, NormalVoice s.voice → tickWraps Config.reference s.voice = false ∧
    ∀ p : Overflow, runTick { Config.reference with ovf := p } s =
      .next (s.deliver (tick Config.reference s.voice))

/-! ### Tables -/

/-- R64, R67, R69 (a), (b), R70: the reference sine table is non-decreasing, the exponential table strictly increasing,
algorithm 0 is the serial chain, algorithm 7 the parallel one, and no entry holds selector 3. -/
def Obligations.ReferenceTablesMonotonicAndRouted : Prop :=
  (∀ i j : Fin 1025, i ≤ j → (Config.reference.sinRom i).toNat ≤ (Config.reference.sinRom j).toNat) ∧
  (∀ i j : Fin 1025, i < j → (Config.reference.expRom i).toNat < (Config.reference.expRom j).toNat) ∧
  (∀ i : OpIdx, routeRule (Config.reference.algRom 0) i = { src := if i = .o0 then .none else .output, snk := .output }) ∧
  (∀ i : OpIdx, routeRule (Config.reference.algRom 7) i = { src := .none, snk := .adder }) ∧
  (∀ (n : BitVec 3) (i : OpIdx), (routeNibble (Config.reference.algRom n) i).extractLsb' 2 2 ≠ 3 ∧
    (routeNibble (Config.reference.algRom n) i).extractLsb' 0 2 ≠ 3)
end

