-- ==== Sys2Proof/Laws/Alu.lean ====
section
/-! SUPPORT. The ALU functions (40_q16_alu.md) against bit-vector arithmetic: one lemma per function. -/

namespace Sys2Proof.Machine

theorem s32_toInt_of_fits {n : Int} (lo : -2147483648 ≤ n) (hi : n < 2147483648) : (s32 n).toInt = n := by
  rw [s32, BitVec.toInt_ofInt, Int.bmod_def]
  omega

@[simp] theorem s32_toInt_self (a : Fx) : s32 a.toInt = a := BitVec.ofInt_toInt

theorem asr_eq_div (n : Int) (k : Nat) : asr n k = n / 2 ^ k := by
  rw [asr, Int.shiftRight_eq_div_pow]
  norm_cast

@[simp] theorem fxAdd_eq (a b : Fx) : fxAdd a b = a + b := by
  rw [fxAdd, s32, ← BitVec.toInt_inj, BitVec.toInt_ofInt, BitVec.toInt_add]

@[simp] theorem fxSub_eq (a b : Fx) : fxSub a b = a - b := by
  rw [fxSub, s32, ← BitVec.toInt_inj, BitVec.toInt_ofInt, BitVec.toInt_sub]

@[simp] theorem fxMuli_eq (a k : BitVec 32) : fxMuli a k = a * k := by
  rw [fxMuli, s32, ← BitVec.toInt_inj, BitVec.toInt_ofInt, BitVec.toInt_mul]

@[simp] theorem fxNeg_eq (a : Fx) : fxNeg a = -a := by simp [fxNeg]

theorem fxMul_comm (a b : Fx) : fxMul a b = fxMul b a := by rw [fxMul, fxMul, Int.mul_comm]

@[simp] theorem fxMul_zero_left (b : Fx) : fxMul 0 b = 0 := by simp [fxMul, asr, s32]

@[simp] theorem fxMul_zero_right (a : Fx) : fxMul a 0 = 0 := by rw [fxMul_comm, fxMul_zero_left]

/-- MUL where the floored product fits (R126). -/
theorem fxMul_toInt_of_fits {a b : Fx} (lo : -2147483648 ≤ a.toInt * b.toInt / 65536)
    (hi : a.toInt * b.toInt / 65536 < 2147483648) : (fxMul a b).toInt = a.toInt * b.toInt / 65536 := by
  have h : asr (a.toInt * b.toInt) 16 = a.toInt * b.toInt / 65536 := asr_eq_div _ _
  rw [fxMul, h]
  exact s32_toInt_of_fits lo hi

theorem shiftAmount_eq (b : Fx) : shiftAmount b = b.toNat % 32 := by
  simp [shiftAmount, BitVec.extractLsb'_toNat]

@[simp] theorem fxLt_iff (a b : Fx) : fxLt a b = true ↔ a.toInt < b.toInt := by simp [fxLt]

@[simp] theorem fxEq_iff (a b : Fx) : fxEq a b = true ↔ a = b := by simp [fxEq]

@[simp] theorem fxLe_iff (a b : Fx) : fxLe a b = true ↔ a.toInt ≤ b.toInt := by
  rw [fxLe, Bool.or_eq_true, fxLt_iff, fxEq_iff, ← BitVec.toInt_inj]
  omega

@[simp] theorem fxGe_iff (a b : Fx) : fxGe a b = true ↔ b.toInt ≤ a.toInt := by
  simp [fxGe, fxLt]

end Sys2Proof.Machine
end

