-- ==== Sys2Proof/Laws/Decode.lean ====
section
/-! SUPPORT. The fields of an encoded word, and the codes of the closed sets. -/

namespace Sys2Proof

@[simp] theorem OpIdx.ofBits_bits (i : OpIdx) : OpIdx.ofBits i.bits = i := by cases i <;> rfl

@[simp] theorem Machine.Shape.ofCode_code (s : Machine.Shape) : Machine.Shape.ofCode s.code = s := by cases s <;> rfl

theorem Machine.Shape.code_ofCode (c : BitVec 3) : (Machine.Shape.ofCode c).code = c := by decide +revert

theorem OpIdx.bits_ofBits (b : BitVec 2) : (OpIdx.ofBits b).bits = b := by decide +revert

theorem hostWord_toNat (op : BitVec 8) (d : BitVec 32) : (hostWord op d).toNat = op.toNat * 2 ^ 32 + d.toNat := by
  rw [hostWord, BitVec.toNat_append, ← Nat.shiftLeft_add_eq_or_of_lt d.isLt, Nat.shiftLeft_eq]

@[simp] theorem opcodeOf_hostWord (op : BitVec 8) (d : BitVec 32) : opcodeOf (hostWord op d) = op := by
  apply BitVec.eq_of_toNat_eq
  have := d.isLt
  have := op.isLt
  simp only [opcodeOf, BitVec.extractLsb'_toNat, hostWord_toNat, Nat.shiftRight_eq_div_pow]
  omega

@[simp] theorem dataOf_hostWord (op : BitVec 8) (d : BitVec 32) : dataOf (hostWord op d) = d := by
  apply BitVec.eq_of_toNat_eq
  have := d.isLt
  simp only [dataOf, BitVec.extractLsb'_toNat, hostWord_toNat, Nat.shiftRight_eq_div_pow]
  omega

/-- The opcode is the word divided by 2^32 (R93). -/
theorem opcodeOf_toNat (cmd : BitVec 40) : (opcodeOf cmd).toNat = cmd.toNat / 2 ^ 32 := by
  simp only [opcodeOf, BitVec.extractLsb'_toNat, Nat.shiftRight_eq_div_pow]
  omega

end Sys2Proof
end

