-- ==== Sys2Proof/Laws/Envelope.lean ====
section
/-! SUPPORT. What the envelope operations can do, said once (R187 to R196). -/

namespace Sys2Proof.Machine

/-- EG.CLOSE in one formula (R188). -/
theorem envClose_eq (c : Config) (e : EnvGen) :
    envClose c e = { e with st := .release, idx := if e.st = .attack then search c e.lvl else e.idx } := by
  rcases e with ⟨st, _⟩
  cases st <;> rfl

/-- Every outcome of EG.UPDATE (R191 to R195), in the terms of R196's table. -/
theorem envUpdate_cases (c : Config) (e : EnvGen) :
    (e.st = .attack ∧ envUpdate c e = { e with st := .decay, idx := c.envStart, lvl := fxOne }) ∨
    (e.st = .attack ∧ envUpdate c e = { e with idx := e.idx - e.ar, lvl := attackCurve c (e.idx - e.ar) } ∧
      (attackCurve c (e.idx - e.ar)).toInt < 65536 ∧ c.envFloor.toInt < (e.idx - e.ar).toInt) ∨
    (e.st = .decay ∧ envUpdate c e = { e with
      st := if e.susen then .sustain else .release, idx := e.idx - e.dr, lvl := releaseCurve c (e.idx - e.dr) }) ∨
    (e.st = .decay ∧ envUpdate c e = { e with idx := e.idx - e.dr, lvl := releaseCurve c (e.idx - e.dr) } ∧
      e.sl.toInt < (releaseCurve c (e.idx - e.dr)).toInt ∧ c.envFloor.toInt < (e.idx - e.dr).toInt) ∨
    (e.st = .release ∧ envUpdate c e = { e with st := .idle, idx := c.envStart, lvl := 0 }) ∨
    (e.st = .release ∧ envUpdate c e = { e with idx := e.idx - e.rr, lvl := releaseCurve c (e.idx - e.rr) } ∧
      0 < (releaseCurve c (e.idx - e.rr)).toInt ∧ c.envFloor.toInt < (e.idx - e.rr).toInt) ∨
    ((e.st = .sustain ∨ e.st = .idle) ∧ envUpdate c e = e) := by
  have hone : fxOne.toInt = 65536 := rfl
  have hzero : (0 : Fx).toInt = 0 := rfl
  rcases hst : e.st with _ | _ | _ | _ | _
  · exact .inr (.inr (.inr (.inr (.inr (.inr ⟨.inr rfl, by simp [envUpdate, hst]⟩)))))
  · by_cases h : fxGe (attackCurve c (e.idx - e.ar)) fxOne || fxLe (e.idx - e.ar) c.envFloor
    · exact .inl ⟨rfl, by simp only [envUpdate, hst, attackUpdate, fxSub_eq, h, if_true]⟩
    · refine .inr (.inl ⟨rfl, by simp only [envUpdate, hst, attackUpdate, fxSub_eq, h]; simp, ?_, ?_⟩) <;>
        · simp only [Bool.or_eq_true, fxGe_iff, fxLe_iff, hone] at h
          omega
  · by_cases h : fxLe (releaseCurve c (e.idx - e.dr)) e.sl || fxLe (e.idx - e.dr) c.envFloor
    · exact .inr (.inr (.inl ⟨rfl, by simp only [envUpdate, hst, decayUpdate, fxSub_eq, h, if_true]⟩))
    · refine .inr (.inr (.inr (.inl ⟨rfl, by simp only [envUpdate, hst, decayUpdate, fxSub_eq, h]; simp, ?_, ?_⟩))) <;>
        · simp only [Bool.or_eq_true, fxLe_iff] at h
          omega
  · exact .inr (.inr (.inr (.inr (.inr (.inr ⟨.inl rfl, by simp [envUpdate, hst]⟩)))))
  · by_cases h : fxLe (releaseCurve c (e.idx - e.rr)) 0 || fxLe (e.idx - e.rr) c.envFloor
    · exact .inr (.inr (.inr (.inr (.inl ⟨rfl, by simp only [envUpdate, hst, releaseUpdate, fxSub_eq, h, if_true]⟩))))
    · refine .inr (.inr (.inr (.inr (.inr (.inl
        ⟨rfl, by simp only [envUpdate, hst, releaseUpdate, fxSub_eq, h]; simp, ?_, ?_⟩))))) <;>
        · simp only [Bool.or_eq_true, fxLe_iff, hzero] at h
          omega

/-- EG.SAMPLE either updates and clears the counter, or only counts (R190). -/
theorem envAdvance_cases (c : Config) (e : EnvGen) :
    (e.div.toNat ≤ (e.cnt + 1).toNat ∧ envAdvance c e = envUpdate c { e with cnt := 0 }) ∨
    ((e.cnt + 1).toNat < e.div.toNat ∧ envAdvance c e = { e with cnt := e.cnt + 1 }) := by
  unfold envAdvance
  by_cases h : e.div.toNat ≤ (e.cnt + 1).toNat
  · exact .inl ⟨h, if_pos h⟩
  · exact .inr ⟨by omega, if_neg h⟩

/-- EG.UPDATE writes neither the counter nor a configuration register (R201). -/
theorem envUpdate_frame (c : Config) (e : EnvGen) :
    (envUpdate c e).cnt = e.cnt ∧ (envUpdate c e).ar = e.ar ∧ (envUpdate c e).dr = e.dr ∧ (envUpdate c e).rr = e.rr ∧
      (envUpdate c e).sl = e.sl ∧ (envUpdate c e).susen = e.susen ∧ (envUpdate c e).div = e.div := by
  rcases envUpdate_cases c e with ⟨_, h⟩ | ⟨_, h, _⟩ | ⟨_, h⟩ | ⟨_, h, _⟩ | ⟨_, h⟩ | ⟨_, h, _⟩ | ⟨_, h⟩ <;> rw [h] <;>
    exact ⟨rfl, rfl, rfl, rfl, rfl, rfl, rfl⟩

/-- EG.SAMPLE writes no configuration register (R201). -/
theorem envAdvance_frame (c : Config) (e : EnvGen) :
    (envAdvance c e).ar = e.ar ∧ (envAdvance c e).dr = e.dr ∧ (envAdvance c e).rr = e.rr ∧ (envAdvance c e).sl = e.sl ∧
      (envAdvance c e).susen = e.susen ∧ (envAdvance c e).div = e.div := by
  rcases envAdvance_cases c e with ⟨_, h⟩ | ⟨_, h⟩ <;> rw [h]
  · obtain ⟨_, h1, h2, h3, h4, h5, h6⟩ := envUpdate_frame c { e with cnt := 0 }
    exact ⟨h1, h2, h3, h4, h5, h6⟩
  · exact ⟨rfl, rfl, rfl, rfl, rfl, rfl⟩

end Sys2Proof.Machine
end

