-- ==== Sys2Proof/Laws/Lookup.lean ====
section
/-! SUPPORT. The lookups of 41_lut_interpolators.md with their parameters at the numbers of R8: one equation each. -/

namespace Sys2Proof.Machine

theorem lerp16_eq (e0 e1 : U16) (f : BitVec 4) :
    lerp16 e0 e1 f = BitVec.ofNat 16 ((e0.toNat * (16 - f.toNat) + e1.toNat * f.toNat) >>> 4) := rfl

/-- On a table position SINQ is the entry itself (R151). -/
theorem sinq_of_mod_eq_zero (c : Config) (a : Fin 16385) (h : a.val % 16 = 0) :
    sinq c a = c.sinRom ⟨a.val / 16, show a.val / 16 < 1025 by omega⟩ := dif_pos h

theorem exp2Int_eq (x : Fx) : exp2Int x = asr x.toInt 16 := rfl

theorem exp2Frac_toNat (x : Fx) : (exp2Frac x).toNat = x.toNat % 65536 := by
  show (x.extractLsb' 0 16).toNat = _
  rw [BitVec.extractLsb'_toNat]
  rfl

theorem exp2Scale_eq (n : Int) (m : Nat) :
    exp2Scale n m =
      if 0 ≤ n then if 32 ≤ n then 0 else s32 ((m <<< n.toNat : Nat) : Int)
      else if 17 ≤ -n then 0 else s32 ((m >>> (-n).toNat : Nat) : Int) := rfl

end Sys2Proof.Machine
end

