-- ==== Sys2Proof/Laws/State.lean ====
section
/-! SUPPORT. One lemma per field per named update of the state, so that no proof unfolds a record update. -/

namespace Sys2Proof.Machine

/-! ### Updates of the machine -/

@[simp] theorem State.setVoice_voice (s : State) (v : Voice) : (s.setVoice v).voice = v := rfl
@[simp] theorem State.setVoice_sampleValid (s : State) (v : Voice) : (s.setVoice v).sampleValid = s.sampleValid := rfl
@[simp] theorem State.setVoice_aluY (s : State) (v : Voice) : (s.setVoice v).aluY = s.aluY := rfl
@[simp] theorem State.setVoice_waveY (s : State) (v : Voice) : (s.setVoice v).waveY = s.waveY := rfl
@[simp] theorem State.setVoice_inputs (s : State) (v : Voice) : (s.setVoice v).inputs = s.inputs := rfl

@[simp] theorem State.setAluY_voice (s : State) (y : Fx) : (s.setAluY y).voice = s.voice := rfl
@[simp] theorem State.setAluY_sampleValid (s : State) (y : Fx) : (s.setAluY y).sampleValid = s.sampleValid := rfl
@[simp] theorem State.setAluY_aluY (s : State) (y : Fx) : (s.setAluY y).aluY = y := rfl
@[simp] theorem State.setAluY_waveY (s : State) (y : Fx) : (s.setAluY y).waveY = s.waveY := rfl
@[simp] theorem State.setAluY_inputs (s : State) (y : Fx) : (s.setAluY y).inputs = s.inputs := rfl

@[simp] theorem State.setWaveY_voice (s : State) (y : Fx) : (s.setWaveY y).voice = s.voice := rfl
@[simp] theorem State.setWaveY_sampleValid (s : State) (y : Fx) : (s.setWaveY y).sampleValid = s.sampleValid := rfl
@[simp] theorem State.setWaveY_aluY (s : State) (y : Fx) : (s.setWaveY y).aluY = s.aluY := rfl
@[simp] theorem State.setWaveY_waveY (s : State) (y : Fx) : (s.setWaveY y).waveY = y := rfl
@[simp] theorem State.setWaveY_inputs (s : State) (y : Fx) : (s.setWaveY y).inputs = s.inputs := rfl

@[simp] theorem State.deliver_voice (s : State) (v : Voice) : (s.deliver v).voice = v := rfl
@[simp] theorem State.deliver_sampleValid (s : State) (v : Voice) : (s.deliver v).sampleValid = true := rfl
@[simp] theorem State.deliver_aluY (s : State) (v : Voice) : (s.deliver v).aluY = s.aluY := rfl
@[simp] theorem State.deliver_waveY (s : State) (v : Voice) : (s.deliver v).waveY = s.waveY := rfl
@[simp] theorem State.deliver_inputs (s : State) (v : Voice) : (s.deliver v).inputs = s.inputs := rfl

@[simp] theorem State.reject_voice (s : State) (r : RejectCause) : (s.reject r).voice = s.voice.reject r := rfl
@[simp] theorem State.reject_sampleValid (s : State) (r : RejectCause) : (s.reject r).sampleValid = s.sampleValid := rfl
@[simp] theorem State.reject_aluY (s : State) (r : RejectCause) : (s.reject r).aluY = s.aluY := rfl
@[simp] theorem State.reject_waveY (s : State) (r : RejectCause) : (s.reject r).waveY = s.waveY := rfl
@[simp] theorem State.reject_inputs (s : State) (r : RejectCause) : (s.reject r).inputs = s.inputs := rfl

@[simp] theorem State.updateOp_voice (s : State) (i : OpIdx) (f : Operator → Operator) : (s.updateOp i f).voice = s.voice.setOp i (f (s.voice.op i)) := rfl
@[simp] theorem State.updateOp_sampleValid (s : State) (i : OpIdx) (f : Operator → Operator) : (s.updateOp i f).sampleValid = s.sampleValid := rfl
@[simp] theorem State.updateOp_aluY (s : State) (i : OpIdx) (f : Operator → Operator) : (s.updateOp i f).aluY = s.aluY := rfl
@[simp] theorem State.updateOp_waveY (s : State) (i : OpIdx) (f : Operator → Operator) : (s.updateOp i f).waveY = s.waveY := rfl
@[simp] theorem State.updateOp_inputs (s : State) (i : OpIdx) (f : Operator → Operator) : (s.updateOp i f).inputs = s.inputs := rfl

@[simp] theorem State.idle_voice (s : State) : (s.idle).voice = s.voice := rfl
@[simp] theorem State.idle_sampleValid (s : State) : (s.idle).sampleValid = false := rfl
@[simp] theorem State.idle_aluY (s : State) : (s.idle).aluY = s.aluY := rfl
@[simp] theorem State.idle_waveY (s : State) : (s.idle).waveY = s.waveY := rfl
@[simp] theorem State.idle_inputs (s : State) : (s.idle).inputs = s.inputs := rfl

@[simp] theorem State.accept_voice (s : State) (r : List Input) : (s.accept r).voice = s.voice := rfl
@[simp] theorem State.accept_sampleValid (s : State) (r : List Input) : (s.accept r).sampleValid = false := rfl
@[simp] theorem State.accept_aluY (s : State) (r : List Input) : (s.accept r).aluY = s.aluY := rfl
@[simp] theorem State.accept_waveY (s : State) (r : List Input) : (s.accept r).waveY = s.waveY := rfl
@[simp] theorem State.accept_inputs (s : State) (r : List Input) : (s.accept r).inputs = r := rfl

@[simp] theorem State.takeReset_voice (s : State) (r : List Input) : (s.takeReset r).voice = Voice.reset := rfl
@[simp] theorem State.takeReset_sampleValid (s : State) (r : List Input) : (s.takeReset r).sampleValid = false := rfl
@[simp] theorem State.takeReset_aluY (s : State) (r : List Input) : (s.takeReset r).aluY = s.aluY := rfl
@[simp] theorem State.takeReset_waveY (s : State) (r : List Input) : (s.takeReset r).waveY = s.waveY := rfl
@[simp] theorem State.takeReset_inputs (s : State) (r : List Input) : (s.takeReset r).inputs = r := rfl

/-! ### Updates of the voice -/

@[simp] theorem Voice.mapOps_alg (v : Voice) (f : Operator → Operator) : (v.mapOps f).alg = v.alg := rfl
@[simp] theorem Voice.mapOps_out (v : Voice) (f : Operator → Operator) : (v.mapOps f).out = v.out := rfl
@[simp] theorem Voice.mapOps_adr (v : Voice) (f : Operator → Operator) : (v.mapOps f).adr = v.adr := rfl
@[simp] theorem Voice.mapOps_smp (v : Voice) (f : Operator → Operator) : (v.mapOps f).smp = v.smp := rfl
@[simp] theorem Voice.mapOps_err (v : Voice) (f : Operator → Operator) : (v.mapOps f).err = v.err := rfl
@[simp] theorem Voice.mapOps_op (v : Voice) (f : Operator → Operator) (i : OpIdx) : (v.mapOps f).op i = f (v.op i) := by cases i <;> rfl

@[simp] theorem Voice.reject_alg (v : Voice) (r : RejectCause) : (v.reject r).alg = v.alg := rfl
@[simp] theorem Voice.reject_out (v : Voice) (r : RejectCause) : (v.reject r).out = v.out := rfl
@[simp] theorem Voice.reject_adr (v : Voice) (r : RejectCause) : (v.reject r).adr = v.adr := rfl
@[simp] theorem Voice.reject_smp (v : Voice) (r : RejectCause) : (v.reject r).smp = v.smp := rfl
@[simp] theorem Voice.reject_err (v : Voice) (r : RejectCause) : (v.reject r).err = raiseErr r v.err := rfl
@[simp] theorem Voice.reject_op (v : Voice) (r : RejectCause) (i : OpIdx) : (v.reject r).op i = v.op i := by cases i <;> rfl

@[simp] theorem Voice.clearScratch_alg (v : Voice) : (v.clearScratch).alg = v.alg := rfl
@[simp] theorem Voice.clearScratch_out (v : Voice) : (v.clearScratch).out = 0 := rfl
@[simp] theorem Voice.clearScratch_adr (v : Voice) : (v.clearScratch).adr = 0 := rfl
@[simp] theorem Voice.clearScratch_smp (v : Voice) : (v.clearScratch).smp = v.smp := rfl
@[simp] theorem Voice.clearScratch_err (v : Voice) : (v.clearScratch).err = v.err := rfl
@[simp] theorem Voice.clearScratch_op (v : Voice) (i : OpIdx) : (v.clearScratch).op i = v.op i := by cases i <;> rfl

@[simp] theorem Voice.latchSample_alg (c : Config) (v : Voice) : (v.latchSample c).alg = v.alg := rfl
@[simp] theorem Voice.latchSample_out (c : Config) (v : Voice) : (v.latchSample c).out = v.out := rfl
@[simp] theorem Voice.latchSample_adr (c : Config) (v : Voice) : (v.latchSample c).adr = v.adr := rfl
@[simp] theorem Voice.latchSample_smp (c : Config) (v : Voice) : (v.latchSample c).smp = v.reg (v.route c .o3).snk := rfl
@[simp] theorem Voice.latchSample_err (c : Config) (v : Voice) : (v.latchSample c).err = v.err := rfl
@[simp] theorem Voice.latchSample_op (c : Config) (v : Voice) (i : OpIdx) : (v.latchSample c).op i = v.op i := by cases i <;> rfl

@[simp] theorem Voice.setOp_alg (v : Voice) (i : OpIdx) (o : Operator) : (v.setOp i o).alg = v.alg := by cases i <;> rfl
@[simp] theorem Voice.setOp_out (v : Voice) (i : OpIdx) (o : Operator) : (v.setOp i o).out = v.out := by cases i <;> rfl
@[simp] theorem Voice.setOp_adr (v : Voice) (i : OpIdx) (o : Operator) : (v.setOp i o).adr = v.adr := by cases i <;> rfl
@[simp] theorem Voice.setOp_smp (v : Voice) (i : OpIdx) (o : Operator) : (v.setOp i o).smp = v.smp := by cases i <;> rfl
@[simp] theorem Voice.setOp_err (v : Voice) (i : OpIdx) (o : Operator) : (v.setOp i o).err = v.err := by cases i <;> rfl

@[simp] theorem Voice.setOp_op_same (v : Voice) (i : OpIdx) (o : Operator) : (v.setOp i o).op i = o := by
  cases i <;> rfl

theorem Voice.setOp_op_other (v : Voice) (i j : OpIdx) (o : Operator) (h : j ≠ i) : (v.setOp i o).op j = v.op j := by
  cases i <;> cases j <;> first | rfl | exact absurd rfl h

theorem Voice.setOp_op (v : Voice) (i j : OpIdx) (o : Operator) :
    (v.setOp i o).op j = if j = i then o else v.op j := by
  split
  · next h => rw [h, Voice.setOp_op_same]
  · next h => exact Voice.setOp_op_other v i j o h

@[simp] theorem Voice.sink_alg (v : Voice) (k : RouteSel) (y : Fx) : (v.sink k y).alg = v.alg := by cases k <;> rfl
@[simp] theorem Voice.sink_smp (v : Voice) (k : RouteSel) (y : Fx) : (v.sink k y).smp = v.smp := by cases k <;> rfl
@[simp] theorem Voice.sink_err (v : Voice) (k : RouteSel) (y : Fx) : (v.sink k y).err = v.err := by cases k <;> rfl
@[simp] theorem Voice.sink_op (v : Voice) (k : RouteSel) (y : Fx) (i : OpIdx) : (v.sink k y).op i = v.op i := by
  cases k <;> cases i <;> rfl
@[simp] theorem Voice.sink_none (v : Voice) (y : Fx) : v.sink .none y = v := rfl
@[simp] theorem Voice.sink_output_out (v : Voice) (y : Fx) : (v.sink .output y).out = y := rfl
@[simp] theorem Voice.sink_output_adr (v : Voice) (y : Fx) : (v.sink .output y).adr = v.adr := rfl
@[simp] theorem Voice.sink_adder_out (v : Voice) (y : Fx) : (v.sink .adder y).out = v.out := rfl
@[simp] theorem Voice.sink_adder_adr (v : Voice) (y : Fx) : (v.sink .adder y).adr = fxAdd v.adr y := rfl
@[simp] theorem Voice.reg_none (v : Voice) : v.reg .none = 0 := rfl
@[simp] theorem Voice.reg_output (v : Voice) : v.reg .output = v.out := rfl
@[simp] theorem Voice.reg_adder (v : Voice) : v.reg .adder = v.adr := rfl

/-- Two voices with the same registers and the same operators are equal. -/
theorem Voice.ext_op {v w : Voice} (ha : v.alg = w.alg) (ho : v.out = w.out) (hd : v.adr = w.adr) (hs : v.smp = w.smp)
    (he : v.err = w.err) (hop : ∀ i, v.op i = w.op i) : v = w := by
  have h0 := hop .o0
  have h1 := hop .o1
  have h2 := hop .o2
  have h3 := hop .o3
  cases v
  cases w
  simp only [Voice.op] at *
  simp [*]

/-! ### Updates of the generators -/

@[simp] theorem setPitch_acc (p : Fx) (g : PhaseGen) : (setPitch p g).acc = g.acc := rfl
@[simp] theorem setPitch_pitch (p : Fx) (g : PhaseGen) : (setPitch p g).pitch = p := rfl
@[simp] theorem setPitch_tune (p : Fx) (g : PhaseGen) : (setPitch p g).tune = g.tune := rfl
@[simp] theorem setTune_acc (p : Fx) (g : PhaseGen) : (setTune p g).acc = g.acc := rfl
@[simp] theorem setTune_pitch (p : Fx) (g : PhaseGen) : (setTune p g).pitch = g.pitch := rfl
@[simp] theorem setTune_tune (p : Fx) (g : PhaseGen) : (setTune p g).tune = p := rfl
@[simp] theorem phaseAdvance_pitch (c : Config) (g : PhaseGen) : (phaseAdvance c g).pitch = g.pitch := rfl
@[simp] theorem phaseAdvance_tune (c : Config) (g : PhaseGen) : (phaseAdvance c g).tune = g.tune := rfl

end Sys2Proof.Machine
end

