-- ==== Sys2Proof/Laws/Ops.lean ====
section
/-! SUPPORT. What each shared operation can do, said once. -/

namespace Sys2Proof.Machine

/-- A bounded write completes, accepted or rejected (R282, R304). -/
theorem checked_next (max : Nat) (data : BitVec 32) (acc s : State) :
    checked max data acc s = .next (if data.toNat ≤ max then acc else s.reject .badval) := by
  unfold checked inRange
  by_cases h : data.toNat ≤ max <;> simp [h]

/-- A word that names no instruction is a reject of BADOP or a refusal (R103). -/
theorem takeReject_cases (r : DecodeReject) (s : State) :
    (r ≠ .reservedFunction ∧ takeReject r s = .next (s.reject .badop)) ∨
    (r = .reservedFunction ∧ takeReject r s = .refused .reservedAluFunction) := by
  cases r <;> simp [takeReject]

/-- What one step can do when it answers a next state: idle, reset, an instruction, or a reject (R16, R303, R330). -/
theorem step_cases {s t : State} (h : step s = .next t) :
    (s.inputs = [] ∧ t = s.idle) ∨
    (∃ rest, s.inputs = .rst :: rest ∧ t = s.takeReset rest) ∨
    (∃ w rest i, s.inputs = .present w :: rest ∧ decode w = .ok i ∧ exec i (s.accept rest) = .next t) ∨
    (∃ w rest r, s.inputs = .present w :: rest ∧ decode w = .error r ∧ r ≠ .reservedFunction ∧
      t = (s.accept rest).reject .badop) := by
  unfold step fetch at h
  rcases hi : s.inputs with _ | ⟨_ | w, rest⟩
  · rw [hi] at h
    exact .inl ⟨rfl, (Host.Outcome.next.inj h).symm⟩
  · rw [hi] at h
    exact .inr (.inl ⟨rest, rfl, (Host.Outcome.next.inj h).symm⟩)
  · rw [hi] at h
    rcases hd : decode w with r | i
    · simp only [hd] at h
      rcases takeReject_cases r (s.accept rest) with ⟨hr, e⟩ | ⟨_, e⟩
      · rw [e] at h
        exact .inr (.inr (.inr ⟨w, rest, r, rfl, hd, hr, (Host.Outcome.next.inj h).symm⟩))
      · rw [e] at h
        cases h
    · simp only [hd] at h
      exact .inr (.inr (.inl ⟨w, rest, i, rfl, hd, h⟩))

/-- Every instruction answers a next state in every state: no meaning stops (R18, R309). -/
theorem exec_next (i : Instr) (s : State) : ∃ t, exec i s = .next t := by
  cases i <;> first
    | exact ⟨_, rfl⟩
    | exact ⟨_, checked_next _ _ _ _⟩

end Sys2Proof.Machine
end

