-- ==== Sys2Proof/Laws/Overflow.lean ====
section
/-! SUPPORT. The overflow policy: what a guarded command can answer, and that the policy reaches no value (U1, R307). -/

namespace Sys2Proof.Machine

/-- A guarded command completes, but where the policy is fault and an operation wraps. -/
theorem guardOverflow_eq (c : Config) (wraps : Bool) (t : State) :
    guardOverflow c wraps t = if c.ovf = .fault ∧ wraps = true then .fault .overflow else .next t := by
  unfold guardOverflow
  cases c.ovf <;> simp

/-- At the default policy every guarded command completes. -/
@[simp] theorem guardOverflow_reference (wraps : Bool) (t : State) :
    guardOverflow Config.reference wraps t = .next t := rfl

/-- Where nothing wraps the two policies agree. -/
theorem guardOverflow_of_not_wraps (c : Config) {wraps : Bool} (t : State) (h : wraps = false) :
    guardOverflow c wraps t = .next t := by
  rw [guardOverflow_eq, h]
  simp

theorem execTick_eq (s : State) : execTick s = .next (s.deliver (tick Config.reference s.voice)) := rfl

theorem execNoteOff_eq (s : State) : execNoteOff s = .next (s.setVoice (closeAll Config.reference s.voice)) := rfl

variable (c : Config) (p : Overflow)

theorem exp2_setOvf (x : Fx) : exp2 { c with ovf := p } x = exp2 c x := rfl

theorem envAdvance_setOvf (e : EnvGen) : envAdvance { c with ovf := p } e = envAdvance c e := rfl

theorem waveform_setOvf (sel : Shape) (q : U16) : waveform { c with ovf := p } sel q = waveform c sel q := rfl

theorem opSample_setOvf (o : Operator) : opSample { c with ovf := p } o = opSample c o := rfl

theorem tickOp_setOvf (v : Voice) (i : OpIdx) : tickOp { c with ovf := p } v i = tickOp c v i := rfl

theorem latchSample_setOvf (v : Voice) : v.latchSample { c with ovf := p } = v.latchSample c := rfl

theorem tick_setOvf (v : Voice) : tick { c with ovf := p } v = tick c v := by
  simp only [tick, tickOps, tickOp_setOvf, latchSample_setOvf]

theorem turnWraps_setOvf (v : Voice) (i : OpIdx) : turnWraps { c with ovf := p } v i = turnWraps c v i := rfl

theorem tickWraps_setOvf (v : Voice) : tickWraps { c with ovf := p } v = tickWraps c v := by
  simp only [tickWraps, turnWraps_setOvf, tickOp_setOvf]

end Sys2Proof.Machine
end

