-- ==== Sys2Proof/Laws/Params.lean ====
section
/-! SUPPORT. The named parameters of R8 against the types that fix them, and against `LOG2_FS`. -/

namespace Sys2Proof

theorem Fx_width : Fx = BitVec fxWidth := rfl

theorem U16_width : U16 = BitVec romWidth := rfl

/-- 1.0 has its one bit above the fraction bits (R120). -/
theorem fxOne_eq : Machine.fxOne = BitVec.ofNat fxWidth (2 ^ fracBits) := rfl

/-- The operator indices are the numbers below `NOPS` (R20). -/
theorem OpIdx.bits_lt (i : OpIdx) : i.bits.toNat < nOps := by cases i <;> decide

theorem OpIdx.exists_of_lt {n : Nat} (h : n < nOps) : ∃ i : OpIdx, i.bits.toNat = n :=
  match n, h with
  | 0, _ => ⟨.o0, rfl⟩
  | 1, _ => ⟨.o1, rfl⟩
  | 2, _ => ⟨.o2, rfl⟩
  | 3, _ => ⟨.o3, rfl⟩

/-- `ALG` addresses exactly the `NALG` rows (R24). -/
theorem nAlg_eq : nAlg = 2 ^ 3 := rfl

/-- The shapes are as many as `NWAVE` (R100): their codes are the numbers below it. -/
theorem Machine.Shape.code_lt (s : Machine.Shape) : s.code.toNat < nWave := by cases s <;> decide

theorem Machine.Shape.exists_of_lt {n : Nat} (h : n < nWave) : ∃ s : Machine.Shape, s.code.toNat = n :=
  match n, h with
  | 0, _ => ⟨.fullSine, rfl⟩
  | 1, _ => ⟨.halfSine, rfl⟩
  | 2, _ => ⟨.dblHalfSine, rfl⟩
  | 3, _ => ⟨.dblQuartSine, rfl⟩
  | 4, _ => ⟨.fastSine, rfl⟩
  | 5, _ => ⟨.fastHalfSine, rfl⟩
  | 6, _ => ⟨.sawish, rfl⟩
  | 7, _ => ⟨.square, rfl⟩

/-- The bounds of the narrow operands as R97 writes them. -/
theorem operand_bounds :
    Machine.maxAlg = 7 ∧ Machine.maxWave = 7 ∧ Machine.maxTl = 255 ∧ Machine.maxFbl = 255 ∧ Machine.maxSusen = 1 ∧
      Machine.maxDiv = 65535 := ⟨rfl, rfl, rfl, rfl, rfl, rfl⟩

/-- `LOG2_FS` is log2 of the sample rate, truncated to 1/65536 (R175): with r = 65536 * log2 48000, it is floor(r). -/
theorem log2Fs_of_sampleRate :
    2 ^ Config.reference.log2Fs.toNat ≤ sampleRate ^ 2 ^ fracBits ∧
      sampleRate ^ 2 ^ fracBits < 2 ^ (Config.reference.log2Fs.toNat + 1) := by decide +kernel

end Sys2Proof
end

