-- ==== Sys2Proof/Laws/PerInstr.lean ====
section
/-! SUPPORT. Per instruction: the encoded word of a constructor meets the match and mask of its row of
spec/opcode_table.json. -/

namespace Sys2Proof.Laws.TableRow

/-- The selector bits a row of the table fixes: format H by `match` and `mask` on 40 bits, format A the function code,
format W the selector. -/
inductive Row where
  | h (value mask : BitVec 40)
  | a (fn : BitVec 4)
  | w (sel : BitVec 3)

/-- The row of each constructor, copied from the table. -/
def row : Instr → Row
  | .nop => .h 0x0000000000 0xFF00000000
  | .tick => .h 0x0100000000 0xFF00000000
  | .noteOn _ => .h 0x0200000000 0xFF00000000
  | .noteOff => .h 0x0300000000 0xFF00000000
  | .setFreq _ => .h 0x0400000000 0xFF00000000
  | .setAlg _ => .h 0x0500000000 0xFF00000000
  | .wrWave _ _ => .h 0x8000000000 0x9F00000000
  | .wrTl _ _ => .h 0x8100000000 0x9F00000000
  | .wrFbl _ _ => .h 0x8200000000 0x9F00000000
  | .wrTune _ _ => .h 0x8300000000 0x9F00000000
  | .wrAr _ _ => .h 0x8400000000 0x9F00000000
  | .wrDr _ _ => .h 0x8500000000 0x9F00000000
  | .wrRr _ _ => .h 0x8600000000 0x9F00000000
  | .wrSl _ _ => .h 0x8700000000 0x9F00000000
  | .wrSusen _ _ => .h 0x8800000000 0x9F00000000
  | .wrDiv _ _ => .h 0x8900000000 0x9F00000000
  | .aluAdd _ _ => .a 0x0
  | .aluSub _ _ => .a 0x1
  | .aluMul _ _ => .a 0x2
  | .aluMuli _ _ => .a 0x3
  | .aluShl _ _ => .a 0x4
  | .aluShr _ _ => .a 0x5
  | .aluAnd _ _ => .a 0x6
  | .aluFrac _ => .a 0x7
  | .aluFromi _ => .a 0x8
  | .aluEq _ _ => .a 0x9
  | .aluLt _ _ => .a 0xA
  | .waveFullSine _ => .w 0x0
  | .waveHalfSine _ => .w 0x1
  | .waveDblHalfSine _ => .w 0x2
  | .waveDblQuartSine _ => .w 0x3
  | .waveFastSine _ => .w 0x4
  | .waveFastHalfSine _ => .w 0x5
  | .waveSawish _ => .w 0x6
  | .waveSquare _ => .w 0x7

/-- The word carries the bits the row fixes. -/
def Meets : Row → PortWord → Prop
  | .h value mask, .host cmd => cmd &&& mask = value
  | .a fn, .alu fn' _ _ => fn' = fn
  | .w sel, .wave sel' _ => sel' = sel
  | _, _ => False

/-- The encoding of an instruction meets its row. -/
def Statement (i : Instr) : Prop := Meets (row i) (encode i)

/-- Masking a command word by a mask that spares the data field keeps only opcode bits. -/
theorem hostWord_and (op m : BitVec 8) (d : BitVec 32) : hostWord op d &&& hostWord m 0 = hostWord (op &&& m) 0 := by
  rw [hostWord, hostWord, hostWord]
  show (op ++ d) &&& (m ++ 0#32) = (op &&& m) ++ 0#32
  rw [BitVec.and_append, BitVec.and_zero]

theorem nop : Statement (.nop) := (hostWord_and _ 0xFF 0).trans rfl

theorem tick : Statement (.tick) := (hostWord_and _ 0xFF 0).trans rfl

theorem noteOn (pitch : BitVec 32) : Statement (.noteOn pitch) := (hostWord_and _ 0xFF pitch).trans rfl

theorem noteOff : Statement (.noteOff) := (hostWord_and _ 0xFF 0).trans rfl

theorem setFreq (pitch : BitVec 32) : Statement (.setFreq pitch) := (hostWord_and _ 0xFF pitch).trans rfl

theorem setAlg (n : BitVec 32) : Statement (.setAlg n) := (hostWord_and _ 0xFF n).trans rfl

theorem wrWave (i : OpIdx) (v : BitVec 32) : Statement (.wrWave i v) := (hostWord_and _ 0x9F v).trans (by cases i <;> rfl)

theorem wrTl (i : OpIdx) (v : BitVec 32) : Statement (.wrTl i v) := (hostWord_and _ 0x9F v).trans (by cases i <;> rfl)

theorem wrFbl (i : OpIdx) (v : BitVec 32) : Statement (.wrFbl i v) := (hostWord_and _ 0x9F v).trans (by cases i <;> rfl)

theorem wrTune (i : OpIdx) (v : BitVec 32) : Statement (.wrTune i v) := (hostWord_and _ 0x9F v).trans (by cases i <;> rfl)

theorem wrAr (i : OpIdx) (v : BitVec 32) : Statement (.wrAr i v) := (hostWord_and _ 0x9F v).trans (by cases i <;> rfl)

theorem wrDr (i : OpIdx) (v : BitVec 32) : Statement (.wrDr i v) := (hostWord_and _ 0x9F v).trans (by cases i <;> rfl)

theorem wrRr (i : OpIdx) (v : BitVec 32) : Statement (.wrRr i v) := (hostWord_and _ 0x9F v).trans (by cases i <;> rfl)

theorem wrSl (i : OpIdx) (v : BitVec 32) : Statement (.wrSl i v) := (hostWord_and _ 0x9F v).trans (by cases i <;> rfl)

theorem wrSusen (i : OpIdx) (v : BitVec 32) : Statement (.wrSusen i v) := (hostWord_and _ 0x9F v).trans (by cases i <;> rfl)

theorem wrDiv (i : OpIdx) (v : BitVec 32) : Statement (.wrDiv i v) := (hostWord_and _ 0x9F v).trans (by cases i <;> rfl)

theorem aluAdd (a b : BitVec 32) : Statement (.aluAdd a b) := rfl

theorem aluSub (a b : BitVec 32) : Statement (.aluSub a b) := rfl

theorem aluMul (a b : BitVec 32) : Statement (.aluMul a b) := rfl

theorem aluMuli (a k : BitVec 32) : Statement (.aluMuli a k) := rfl

theorem aluShl (a b : BitVec 32) : Statement (.aluShl a b) := rfl

theorem aluShr (a b : BitVec 32) : Statement (.aluShr a b) := rfl

theorem aluAnd (a b : BitVec 32) : Statement (.aluAnd a b) := rfl

theorem aluFrac (a : BitVec 32) : Statement (.aluFrac a) := rfl

theorem aluFromi (k : BitVec 32) : Statement (.aluFromi k) := rfl

theorem aluEq (a b : BitVec 32) : Statement (.aluEq a b) := rfl

theorem aluLt (a b : BitVec 32) : Statement (.aluLt a b) := rfl

theorem waveFullSine (p : U16) : Statement (.waveFullSine p) := rfl

theorem waveHalfSine (p : U16) : Statement (.waveHalfSine p) := rfl

theorem waveDblHalfSine (p : U16) : Statement (.waveDblHalfSine p) := rfl

theorem waveDblQuartSine (p : U16) : Statement (.waveDblQuartSine p) := rfl

theorem waveFastSine (p : U16) : Statement (.waveFastSine p) := rfl

theorem waveFastHalfSine (p : U16) : Statement (.waveFastHalfSine p) := rfl

theorem waveSawish (p : U16) : Statement (.waveSawish p) := rfl

theorem waveSquare (p : U16) : Statement (.waveSquare p) := rfl

end Sys2Proof.Laws.TableRow
end

