-- ==== Sys2Proof/Laws/Voice.lean ====
section
/-! SUPPORT. What one turn of TICK's loop does to each register (R255 to R257). -/

namespace Sys2Proof.Machine

@[simp] theorem tickOp_alg (c : Config) (v : Voice) (i : OpIdx) : (tickOp c v i).alg = v.alg := by simp [tickOp]

@[simp] theorem tickOp_err (c : Config) (v : Voice) (i : OpIdx) : (tickOp c v i).err = v.err := by simp [tickOp]

@[simp] theorem tickOp_smp (c : Config) (v : Voice) (i : OpIdx) : (tickOp c v i).smp = v.smp := by simp [tickOp]

@[simp] theorem tickOp_route (c : Config) (v : Voice) (i j : OpIdx) : (tickOp c v i).route c j = v.route c j := by
  simp [Voice.route]

@[simp] theorem clearScratch_route (c : Config) (v : Voice) (j : OpIdx) : v.clearScratch.route c j = v.route c j := rfl

/-- A turn writes its own operator and no other (R21). -/
theorem tickOp_op (c : Config) (v : Voice) (i j : OpIdx) :
    (tickOp c v i).op j = if j = i then (opSample c (v.modulated c i)).1 else v.op j := by
  simp [tickOp, Voice.setOp_op]

/-- The operator a turn samples depends on nothing of the voice but the operator and the source register. -/
theorem modulated_eq (c : Config) (v : Voice) (i : OpIdx) :
    v.modulated c i = { v.op i with modin := v.reg (v.route c i).src } := rfl

/-- TICK keeps the algorithm and the error flags (R24, R309). -/
theorem tick_alg_err (c : Config) (v : Voice) : (tick c v).alg = v.alg ∧ (tick c v).err = v.err := by
  simp [tick, tickOps]

/-- OP.SAMPLE writes `ACC`, the envelope's datapath registers and `FB`; `MODIN`, `WAVE`, `TL`, `FBL`, `PITCH` and `TUNE`
stay (R240). -/
theorem opSample_frame (c : Config) (o : Operator) :
    (opSample c o).1.modin = o.modin ∧ (opSample c o).1.wave = o.wave ∧ (opSample c o).1.tl = o.tl ∧
      (opSample c o).1.fbl = o.fbl ∧ (opSample c o).1.pg.pitch = o.pg.pitch ∧ (opSample c o).1.pg.tune = o.pg.tune ∧
      (opSample c o).1.eg = envAdvance c o.eg ∧ (opSample c o).1.pg = phaseAdvance c o.pg :=
  ⟨rfl, rfl, rfl, rfl, rfl, rfl, rfl, rfl⟩

end Sys2Proof.Machine
end

