-- ==== Sys2Proof/Tests/Slice0.lean ====
section
/-! SUPPORT. Tests: words and values written out from the spec (95_test_vectors.md, R105, R232, R268), and a witness for
the hypotheses of every statement. -/

namespace Sys2Proof.Tests

open Sys2Proof.Machine Sys2Proof.Safety

/-! ### Helpers -/

/-- The state with one word to take. -/
def given (s : State) (w : PortWord) : State := { s with inputs := [.present w] }

/-- The state after one step on the word, if the step answers one. -/
def stepped (s : State) (w : PortWord) : Option State :=
  match step (given s w) with
  | .next t => some t
  | .fault _ => none
  | .refused _ => none

/-- One step of the reset state on a host command. -/
def host (cmd : BitVec 40) : Option State := stepped State.reset (.host cmd)

/-- What the reset state becomes when operator `i` changes. -/
def resetBut (i : OpIdx) (f : Operator → Operator) : Option State := some (State.reset.updateOp i f)

/-- What the reset state becomes when only `ERR` changes. -/
def resetErr (e : BitVec 2) : Option State := some (withErr State.reset e)

/-- `y` of the stand-alone ALU after one step. -/
def alu (fn : BitVec 4) (a b : Fx) : Option Fx := (stepped State.reset (.alu fn a b)).map fun t => t.aluY

/-- The stand-alone waveform unit after one step. -/
def wave (sel : BitVec 3) (p : U16) : Option Int := (stepped State.reset (.wave sel p)).map fun t => t.waveY.toInt

/-- Four equal operators. -/
def four (o : Operator) : Voice := { Voice.reset with op0 := o, op1 := o, op2 := o, op3 := o }

/-- Four copies of an envelope in the reset operator. -/
def withEnv (e : EnvGen) : State := { State.reset with voice := four { Operator.reset with eg := e } }

/-- An operator of the patch of R268, after its NOTE_ON. -/
def sineOp : Operator :=
  { Operator.reset with
    tl := 255
    pg := { PhaseGen.reset with pitch := 0x00098CFD }
    eg := { EnvGen.reset with st := .attack, ar := 0x00010000, sl := 0x00010000, susen := true } }

/-- The patch of R268, after its NOTE_ON. -/
def sinePatch : State := { State.reset with voice := four sineOp }

/-- An operator of vector V1, after its NOTE_ON. -/
def probeOp (tl : BitVec 8) : Operator :=
  { Operator.reset with
    wave := .square
    tl := tl
    eg := { EnvGen.reset with st := .attack, ar := 0x00010000 } }

/-- Vector V1 under one algorithm. -/
def probe (alg : BitVec 3) : State :=
  { State.reset with voice := { Voice.reset with
      alg := alg, op0 := probeOp 1, op1 := probeOp 2, op2 := probeOp 4, op3 := probeOp 8 } }

/-- A voice in the ordinary operating range: the patch of R268 with the smallest and the largest ordinary rates. -/
def ordinaryVoice : Voice :=
  four { sineOp with eg := { sineOp.eg with ar := 0x40000000, dr := 1, rr := 1 } }

/-! ### WellFormed: one ill-formed term for each check -/

theorem test_wf_setAlg : (Instr.setAlg 7).WellFormed = true ∧ (Instr.setAlg 8).WellFormed = false := by decide

theorem test_wf_wrWave : (Instr.wrWave .o2 7).WellFormed = true ∧ (Instr.wrWave .o2 8).WellFormed = false := by decide

theorem test_wf_wrTl : (Instr.wrTl .o1 255).WellFormed = true ∧ (Instr.wrTl .o1 256).WellFormed = false := by decide

theorem test_wf_wrFbl : (Instr.wrFbl .o0 255).WellFormed = true ∧ (Instr.wrFbl .o0 256).WellFormed = false := by decide

theorem test_wf_wrSusen : (Instr.wrSusen .o3 1).WellFormed = true ∧ (Instr.wrSusen .o3 2).WellFormed = false := by decide

theorem test_wf_wrDiv :
    (Instr.wrDiv .o3 65535).WellFormed = true ∧ (Instr.wrDiv .o3 65536).WellFormed = false := by decide

/-! ### Decoding: words written out from R94, R95, R97 (H1 to H27 of 95_test_vectors.md), R99 and R100 -/

theorem test_decode_voice_commands :
    decode (.host 0x00DEADBEEF) = .ok .nop ∧ decode (.host 0x0100000000) = .ok .tick ∧
    decode (.host 0x020008C807) = .ok (.noteOn 0x0008C807) ∧ decode (.host 0x0300000000) = .ok .noteOff ∧
    decode (.host 0x04FFFF0000) = .ok (.setFreq 0xFFFF0000) ∧
    decode (.host 0x0500000007) = .ok (.setAlg 7) := by decide

theorem test_decode_wr :
    decode (.host 0x8000000007) = .ok (.wrWave .o0 7) ∧ decode (.host 0xA1000000FF) = .ok (.wrTl .o1 255) ∧
    decode (.host 0xC200000080) = .ok (.wrFbl .o2 128) ∧ decode (.host 0xE3FFFF0000) = .ok (.wrTune .o3 0xFFFF0000) ∧
    decode (.host 0x8400001000) = .ok (.wrAr .o0 0x1000) ∧ decode (.host 0xA500002000) = .ok (.wrDr .o1 0x2000) ∧
    decode (.host 0xC600004000) = .ok (.wrRr .o2 0x4000) ∧ decode (.host 0xE700008000) = .ok (.wrSl .o3 0x8000) ∧
    decode (.host 0x8800000001) = .ok (.wrSusen .o0 1) ∧ decode (.host 0xE90000FFFF) = .ok (.wrDiv .o3 65535) := by
  decide

theorem test_decode_alu :
    decode (.alu 0b0000 1 2) = .ok (.aluAdd 1 2) ∧ decode (.alu 0b0001 1 2) = .ok (.aluSub 1 2) ∧
    decode (.alu 0b0010 1 2) = .ok (.aluMul 1 2) ∧ decode (.alu 0b0011 1 2) = .ok (.aluMuli 1 2) ∧
    decode (.alu 0b0100 1 2) = .ok (.aluShl 1 2) ∧ decode (.alu 0b0101 1 2) = .ok (.aluShr 1 2) ∧
    decode (.alu 0b0110 1 2) = .ok (.aluAnd 1 2) ∧ decode (.alu 0b0111 1 2) = .ok (.aluFrac 1) ∧
    decode (.alu 0b1000 1 2) = .ok (.aluFromi 1) ∧ decode (.alu 0b1001 1 2) = .ok (.aluEq 1 2) ∧
    decode (.alu 0b1010 1 2) = .ok (.aluLt 1 2) := by decide

theorem test_decode_wave :
    decode (.wave 0b000 9) = .ok (.waveFullSine 9) ∧ decode (.wave 0b001 9) = .ok (.waveHalfSine 9) ∧
    decode (.wave 0b010 9) = .ok (.waveDblHalfSine 9) ∧ decode (.wave 0b011 9) = .ok (.waveDblQuartSine 9) ∧
    decode (.wave 0b100 9) = .ok (.waveFastSine 9) ∧ decode (.wave 0b101 9) = .ok (.waveFastHalfSine 9) ∧
    decode (.wave 0b110 9) = .ok (.waveSawish 9) ∧ decode (.wave 0b111 9) = .ok (.waveSquare 9) := by decide

theorem test_decode_reserved :
    decode (.host 0x0600000000) = .error .reservedOpcode ∧ decode (.host 0x7F12345678) = .error .reservedOpcode ∧
    decode (.host 0x8A00000005) = .error .reservedRegister ∧ decode (.host 0xFF00000000) = .error .reservedRegister ∧
    decode (.alu 0b1011 0 0) = .error .reservedFunction ∧ decode (.alu 0b1111 0 0) = .error .reservedFunction := by
  decide

/-- The words of the table as the host numbers them. -/
theorem test_table_words :
    decodeTableWord 40 0x0200000000 = some (.noteOn 0) ∧ decodeTableWord 40 0x8900000000 = some (.wrDiv .o0 0) ∧
    decodeTableWord 8 0xA = some (.aluLt 0 0) ∧ decodeTableWord 3 0x6 = some (.waveSawish 0) ∧
    decodeTableWord 8 0xB = none ∧ decodeTableWord 40 0x0600000000 = none := by decide

theorem test_withFetchWord : (State.reset.withFetchWord 40 0x0500000007).inputs = [.present (.host 0x0500000007)] := by
  decide

/-! ### Tables (R66, R68: number of entries, sum, XOR) -/

theorem test_rom_sums :
    sinRows.flatten.length = 1025 ∧ sinRows.flatten.foldl (· + ·) 0 = 42755590 ∧
    sinRows.flatten.foldl (· ^^^ ·) 0 = 55222 ∧
    expRows.flatten.length = 1025 ∧ expRows.flatten.foldl (· + ·) 0 = 29741525 ∧
    expRows.flatten.foldl (· ^^^ ·) 0 = 28253 := by decide +kernel

theorem test_rom_anchors :
    Config.reference.sinRom 1 = 101 ∧ Config.reference.sinRom 512 = 46341 ∧ Config.reference.sinRom 1024 = 65535 ∧
    Config.reference.expRom 1 = 44 ∧ Config.reference.expRom 512 = 27146 ∧ Config.reference.expRom 1024 = 65535 := by
  decide +kernel

/-! ### Lookups (95_test_vectors.md 2.2, 2.3) -/

theorem test_sinq :
    sinq Config.reference 17 = 107 ∧ sinq Config.reference 5461 = 32766 ∧ sinq Config.reference 16383 = 65535 ∧
    sinq Config.reference 16384 = 65535 := by decide +kernel

theorem test_exp2 :
    exp2 Config.reference 0x0000003F = 65577 ∧ exp2 Config.reference 0x0000FFFF = 131065 ∧
    exp2 Config.reference 0x000EFFFF = 0x7FFE4000 ∧ exp2 Config.reference 0x000F0000 = 0x80000000 ∧
    exp2 Config.reference 0x001F0000 = 0 ∧ exp2 Config.reference 0xFFF93B0A = 600 ∧
    exp2 Config.reference 0xFFF00000 = 1 ∧ exp2 Config.reference 0x80000000 = 0 := by decide +kernel

/-! ### Phase generator (G3, G8, G9) -/

theorem test_phase_update :
    phaseUpdate Config.reference { acc := 0xFC00, pitch := 0x00098CFD, tune := 0 } 0 =
      ({ acc := 0x0000, pitch := 0x00098CFD, tune := 0 }, 0x0000) ∧
    (phaseUpdate Config.reference { acc := 0x0400, pitch := 0x00098CFD, tune := 0 } 0xFFFFC000).2 = 0xC800 ∧
    (phaseUpdate Config.reference { acc := 0x0800, pitch := 0x00098CFD, tune := 0 } 0x00012345).2 = 0x2F45 := by
  decide +kernel

/-! ### Envelope generator (E1 calls 1, 4, 8, 12; E2; E4; E5) -/

theorem test_env_attack :
    envSample Config.reference { EnvGen.reset with st := .attack, ar := 0x4000 } =
      ({ EnvGen.reset with st := .attack, ar := 0x4000, idx := 0xC000, lvl := 20854 }, 20854) ∧
    envSample Config.reference { EnvGen.reset with st := .attack, ar := 0x4000, idx := 0x4000, lvl := 53136 } =
      ({ EnvGen.reset with st := .decay, ar := 0x4000, idx := 0x00010000, lvl := 65536 }, 65536) := by decide +kernel

theorem test_env_attack_negative_rate :
    (envSample Config.reference { EnvGen.reset with st := .attack, ar := 0xFFFFF000 }).2.toInt = -5804 := by
  decide +kernel

theorem test_env_decay :
    envSample Config.reference { EnvGen.reset with
        st := .decay, dr := 0x2000, sl := 0x8000, susen := true, idx := 0xA000, lvl := 35534 } =
      ({ EnvGen.reset with
        st := .sustain, dr := 0x2000, sl := 0x8000, susen := true, idx := 0x8000, lvl := 27146 }, 27146) ∧
    (envSample Config.reference { EnvGen.reset with
        st := .decay, dr := 0x4000, sl := 0x8000, idx := 0xC000, lvl := 44682 }).1.st = .release := by decide +kernel

theorem test_env_release :
    envSample Config.reference { EnvGen.reset with st := .release, rr := 0x4000, idx := 0x4000, lvl := 12400 } =
      ({ EnvGen.reset with rr := 0x4000 }, 0) := by decide +kernel

theorem test_env_divider :
    (envSample Config.reference { EnvGen.reset with st := .attack, ar := 0x4000, div := 3, cnt := 1 }).1.cnt = 2 ∧
    (envSample Config.reference { EnvGen.reset with st := .attack, ar := 0x4000, div := 3, cnt := 2 }).2 = 20854 := by
  decide +kernel

theorem test_search :
    search Config.reference 0xFFFFFFFF = 0x0080 ∧ search Config.reference 100 = 0x0080 ∧
    search Config.reference 20854 = 0x6680 ∧ search Config.reference 34287 = 0x9B80 ∧
    search Config.reference 65536 = 0xFF80 := by decide +kernel

/-! ### Operator (O7, O12, O14, O15, O16) -/

/-- An operator of section 2.7: increment 1024, envelope in Sustain. -/
def opAt (shape : Shape) (tl fbl : BitVec 8) (fb modin : Fx) (acc : U16) (lvl : Fx) : Operator :=
  { modin := modin, fb := fb, wave := shape, tl := tl, fbl := fbl
    pg := { acc := acc, pitch := 0x00098CFD, tune := 0 }
    eg := { EnvGen.reset with st := .sustain, lvl := lvl } }

/-- Output and feedback after one call. -/
def sampled (o : Operator) : Int × Int := ((opSample Config.reference o).2.toInt, (opSample Config.reference o).1.fb.toInt)

theorem test_operator :
    sampled (opAt .fullSine 255 128 0x2000 0x3000 0x3C00 0x10000) = (-25080, -12589) ∧
    sampled (opAt .fullSine 0 255 0x1234 0x4000 0x3C00 0x10000) = (0, 0) ∧
    sampled (opAt .square 255 255 0 0 0x7C00 1) = (-1, -1) ∧
    sampled (opAt .sawish 200 100 0 0xFFFF8000 0xFC00 0xC000) = (-38550, -15118) ∧
    sampled (opAt .fullSine 255 0 0 0 0x0C00 0xFFFFEAC1) = (-2082, 0) := by decide +kernel

/-! ### Host commands, one step each (H1 to H27) -/

theorem test_nop : host 0x0000000000 = some State.reset := by decide

theorem test_nop_with_data : host 0x00DEADBEEF = some State.reset := by decide

/-- H3. -/
theorem test_tick_from_reset :
    host 0x0100000000 = some { State.reset with
      voice := four { Operator.reset with pg := { PhaseGen.reset with acc := 1 } }, sampleValid := true } := by
  decide +kernel

/-- R268: the four modulations and the sample. -/
theorem test_tick_serial_chain :
    (stepped sinePatch (.host 0x0100000000)).map (fun t =>
      (t.voice.op0.modin.toInt, t.voice.op1.modin.toInt, t.voice.op2.modin.toInt, t.voice.op3.modin.toInt,
        t.voice.smp.toInt, t.voice.op3.eg.st)) =
      some (0, 6424, 42920, -57535, 49890, .decay) := by decide +kernel

theorem test_noteOn : host 0x020008C807 = some { State.reset with voice := four { Operator.reset with
    pg := { PhaseGen.reset with pitch := 0x0008C807 }, eg := { EnvGen.reset with st := .attack } } } := by decide

theorem test_noteOff_from_idle : host 0x0300000000 =
    some (withEnv { EnvGen.reset with st := .release }) := by decide

/-- R200: from Attack the search finds 0x9B80. -/
theorem test_noteOff_from_attack :
    stepped (withEnv { EnvGen.reset with st := .attack, idx := 0x9000, lvl := 34287 }) (.host 0x0300000000) =
      some (withEnv { EnvGen.reset with st := .release, idx := 0x9B80, lvl := 34287 }) := by decide +kernel

theorem test_setFreq : host 0x04FFFF0000 = some { State.reset with
    voice := four { Operator.reset with pg := { PhaseGen.reset with pitch := 0xFFFF0000 } } } := by decide

theorem test_setAlg : host 0x0500000007 = some { State.reset with voice := { Voice.reset with alg := 7 } } := by decide

theorem test_setAlg_reject : host 0x0500000008 = resetErr 0b10 := by decide

theorem test_wrWave : host 0x8000000007 = resetBut .o0 fun o => { o with wave := .square } := by decide

theorem test_wrWave_reject : host 0xC000000008 = resetErr 0b10 := by decide

theorem test_wrTl : host 0xA1000000FF = resetBut .o1 fun o => { o with tl := 255 } := by decide

theorem test_wrTl_reject : host 0xA100000100 = resetErr 0b10 := by decide

theorem test_wrFbl : host 0xC200000080 = resetBut .o2 fun o => { o with fbl := 128 } := by decide

theorem test_wrTune : host 0xE3FFFF0000 =
    resetBut .o3 fun o => { o with pg := { o.pg with tune := 0xFFFF0000 } } := by decide

theorem test_wrAr : host 0x8400001000 = resetBut .o0 fun o => { o with eg := { o.eg with ar := 0x1000 } } := by decide

theorem test_wrAr_negative : host 0x84FFFFF000 =
    resetBut .o0 fun o => { o with eg := { o.eg with ar := 0xFFFFF000 } } := by decide

theorem test_wrDr : host 0xA500002000 = resetBut .o1 fun o => { o with eg := { o.eg with dr := 0x2000 } } := by decide

theorem test_wrRr : host 0xC600004000 = resetBut .o2 fun o => { o with eg := { o.eg with rr := 0x4000 } } := by decide

theorem test_wrSl : host 0xE700008000 = resetBut .o3 fun o => { o with eg := { o.eg with sl := 0x8000 } } := by decide

theorem test_wrSusen : host 0x8800000001 = resetBut .o0 fun o => { o with eg := { o.eg with susen := true } } := by
  decide

theorem test_wrSusen_reject : host 0x8800000002 = resetErr 0b10 := by decide

theorem test_wrDiv : host 0xE90000FFFF = resetBut .o3 fun o => { o with eg := { o.eg with div := 65535 } } := by decide

theorem test_wrDiv_reject : host 0xE900010000 = resetErr 0b10 := by decide

theorem test_reserved_opcodes :
    host 0x0600000000 = resetErr 0b01 ∧ host 0x7F12345678 = resetErr 0b01 ∧ host 0x8A00000005 = resetErr 0b01 ∧
    host 0xFF00000000 = resetErr 0b01 := by decide

/-- H23 followed by H8. -/
theorem test_err_is_sticky :
    stepped (withErr State.reset 0b01) (.host 0x0500000008) = resetErr 0b11 := by decide

/-! ### ALU functions (95_test_vectors.md 2.1) -/

theorem test_alu_add : alu 0 0x7FFFFFFF 1 = some 0x80000000 ∧ alu 0 0x80000000 0xFFFFFFFF = some 0x7FFFFFFF := by decide

theorem test_alu_sub : alu 1 0x00098CFD 0x000F8CFD = some 0xFFFA0000 ∧ alu 1 0x80000000 1 = some 0x7FFFFFFF := by decide

theorem test_alu_mul :
    alu 2 0xFFFFE6E8 0x00008080 = some 0xFFFFF367 ∧ alu 2 0x7FFFFFFF 0x7FFFFFFF = some 0xFFFF0000 := by decide

theorem test_alu_muli : alu 3 0x00018000 0xFFFFFFFE = some 0xFFFD0000 ∧ alu 3 0x00010000 65536 = some 0 := by decide

theorem test_alu_shl : alu 4 0xFFFFFFFF 31 = some 0x80000000 ∧ alu 4 1 0x21 = some 2 := by decide

theorem test_alu_shr : alu 5 0x80000000 31 = some 0xFFFFFFFF ∧ alu 5 0xFFFFFFFD 1 = some 0xFFFFFFFE := by decide

theorem test_alu_and :
    alu 6 0x12345678 0x0000FFFF = some 0x00005678 ∧ alu 6 0x80000001 0x80000000 = some 0x80000000 := by decide

theorem test_alu_frac : alu 7 0xFFFF4000 0 = some 0x00004000 ∧ alu 7 0xFFFFFFFF 0 = some 0x0000FFFF := by decide

theorem test_alu_fromi : alu 8 0xFFFFFFFF 0 = some 0xFFFF0000 ∧ alu 8 32768 0 = some 0x80000000 := by decide

theorem test_alu_eq : alu 9 0x80000000 0x80000000 = some 1 ∧ alu 9 0x00010000 0x0000FFFF = some 0 := by decide

theorem test_alu_lt : alu 10 0x80000000 0x7FFFFFFF = some 1 ∧ alu 10 0x7FFFFFFF 0x80000000 = some 0 := by decide

theorem test_alu_reserved : step (given State.reset (.alu 11 0 0)) = .refused .reservedAluFunction := rfl

/-! ### Waveform shapes (R232) -/

theorem test_wave_fullSine : wave 0 0x3000 = some 60547 ∧ wave 0 0xD000 = some (-60547) := by decide +kernel

theorem test_wave_halfSine : wave 1 0x5000 = some 60547 ∧ wave 1 0x9000 = some 0 := by decide +kernel

theorem test_wave_dblHalfSine : wave 2 0x9000 = some 25080 ∧ wave 2 0xFFFF = some 6 := by decide +kernel

theorem test_wave_dblQuartSine : wave 3 0x4000 = some 0 ∧ wave 3 0xBFFF = some (-65535) := by decide +kernel

theorem test_wave_fastSine : wave 4 0x3FFF = some 12 ∧ wave 4 0x6000 = some (-65535) := by decide +kernel

theorem test_wave_fastHalfSine : wave 5 0x7FFF = some 12 ∧ wave 5 0x8001 = some 0 := by decide +kernel

theorem test_wave_sawish : wave 6 0x5000 = some 54491 ∧ wave 6 0x9000 = some (-64277) := by decide +kernel

theorem test_wave_square : wave 7 0x7FFF = some 65536 ∧ wave 7 0x8000 = some (-65536) := by decide +kernel

/-! ### Witnesses: states and operands that meet the hypotheses of the statements, clause by clause -/

theorem witness_StepRunsDecodedInstruction :
    (given State.reset (.host 0x0100000000)).inputs = [.present (.host 0x0100000000)] ∧
    decode (.host 0x0100000000) = .ok .tick := ⟨rfl, by decide⟩

theorem witness_StepIdlesAndResets :
    State.reset.inputs = [] ∧ { sinePatch with inputs := [.rst] }.inputs = [.rst] := ⟨rfl, rfl⟩

/-- The first and the last code of each reserved range; the codes beside them are not reserved. -/
theorem witness_ReservedOpcodeSetsBadop :
    reservedOpcode ((0x0600000000 : BitVec 40).toNat / 2 ^ 32) = true ∧
    reservedOpcode ((0x7F12345678 : BitVec 40).toNat / 2 ^ 32) = true ∧
    reservedOpcode ((0x8A00000005 : BitVec 40).toNat / 2 ^ 32) = true ∧
    reservedOpcode ((0xFF00000000 : BitVec 40).toNat / 2 ^ 32) = true ∧
    reservedOpcode 0x05 = false ∧ reservedOpcode 0x80 = false ∧ reservedOpcode 0xE9 = false := by decide

theorem witness_OutOfRangeSetsBadval :
    7 < (8 : BitVec 32).toNat ∧ 255 < (256 : BitVec 32).toNat ∧ 1 < (2 : BitVec 32).toNat ∧
    65535 < (65536 : BitVec 32).toNat ∧ (Instr.wrDiv .o3 65535).WellFormed = true ∧
    ∃ t, exec (.wrDiv .o3 65535) State.reset = .next t := ⟨by decide, by decide, by decide, by decide, by decide, _, rfl⟩

/-- A step that sets a second bit of `ERR`. -/
theorem witness_ErrIsSticky :
    NoReset (given (withErr State.reset 0b01) (.host 0x0500000008)) ∧
    step (given (withErr State.reset 0b01) (.host 0x0500000008)) = .next (withErr State.reset 0b11) :=
  ⟨by decide, rfl⟩

theorem witness_NothingReadsErr :
    step (given State.reset (.host 0x0600000000)) = .next (withErr State.reset 0b01) := rfl

theorem witness_StepIsTotal :
    reservedAluNext (given State.reset (.alu 10 0 0)) = false ∧ reservedAluNext (given State.reset (.alu 11 0 0)) = true ∧
    reservedAluNext (given State.reset (.alu 15 0 0)) = true := by decide

/-- One word for each branch. -/
theorem witness_EncodeOfDecode :
    decode (.host 0x00DEADBEEF) = .ok .nop ∧ decode (.host 0x01FFFFFFFF) = .ok .tick ∧
    decode (.host 0x0300000001) = .ok .noteOff ∧ decode (.alu 7 1 2) = .ok (.aluFrac 1) ∧
    decode (.alu 8 1 2) = .ok (.aluFromi 1) ∧ decode (.host 0xE900010000) = .ok (.wrDiv .o3 65536) := by decide

/-- The first and the last reserved code of each range. -/
theorem witness_RejectedWords :
    decode (.host 0x0600000000) = .error .reservedOpcode ∧ decode (.host 0x7FFFFFFFFF) = .error .reservedOpcode ∧
    decode (.host 0x8A00000000) = .error .reservedRegister ∧ decode (.host 0x9F00000000) = .error .reservedRegister ∧
    decode (.host 0xEA00000000) = .error .reservedRegister ∧ decode (.alu 11 0 0) = .error .reservedFunction ∧
    (∃ i, decode (.host 0x05FFFFFFFF) = .ok i) ∧ (∃ i, decode (.host 0x8900000000) = .ok i) ∧
    (∃ i, decode (.alu 10 0 0) = .ok i) := by
  exact ⟨by decide, by decide, by decide, by decide, by decide, by decide, ⟨_, rfl⟩, ⟨_, rfl⟩, ⟨_, rfl⟩⟩

theorem witness_SetAlgWritesAlg : (7 : BitVec 32).toNat ≤ 7 ∧ 7 < (8 : BitVec 32).toNat := by decide

theorem witness_WrNarrowRegisters :
    (7 : BitVec 32).toNat ≤ 7 ∧ (255 : BitVec 32).toNat ≤ 255 ∧ (1 : BitVec 32).toNat ≤ 1 ∧
    (65535 : BitVec 32).toNat ≤ 65535 ∧ 7 < (8 : BitVec 32).toNat ∧ 255 < (0xFFFFFFFF : BitVec 32).toNat ∧
    1 < (2 : BitVec 32).toNat ∧ 65535 < (0x00010000 : BitVec 32).toNat := by decide

/-- Vector V1 (95_test_vectors.md 2.8) for one algorithm of each clause, the modulations and the sample. -/
def probed (alg : BitVec 3) : Option (List Int) :=
  (stepped (probe alg) (.host 0x0100000000)).map fun t =>
    [t.voice.op0.modin.toInt, t.voice.op1.modin.toInt, t.voice.op2.modin.toInt, t.voice.op3.modin.toInt,
      t.voice.out.toInt, t.voice.adr.toInt, t.voice.smp.toInt]

theorem witness_TickUnderEachAlgorithm_serial :
    probed 0 = some [0, 257, 514, 1028, 2056, 0, 2056] ∧ probed 1 = some [0, 257, 0, 1028, 1028, 2570, 2570] ∧
    probed 2 = some [0, 257, 514, 514, 514, 3084, 3084] ∧ probed 3 = some [0, 257, 257, 257, 257, 3598, 3598] := by
  decide +kernel

theorem witness_TickUnderEachAlgorithm_parallel :
    probed 4 = some [0, 0, 771, 1028, 2056, 771, 2056] ∧ probed 5 = some [0, 257, 771, 1028, 2056, 771, 2056] ∧
    probed 6 = some [0, 257, 514, 0, 514, 3084, 3084] ∧ probed 7 = some [0, 0, 0, 0, 0, 3855, 3855] := by
  decide +kernel

theorem witness_TickKeepsConfiguration : ∃ t, exec .tick sinePatch = .next t := ⟨_, rfl⟩

/-- Two voices that differ in every register a TICK does not read. -/
theorem witness_TickIgnoresOldScratch :
    AgreeForTick (four sineOp) { four { sineOp with modin := 5 } with out := 1, adr := 2, smp := 3 } ∧
    four sineOp ≠ { four { sineOp with modin := 5 } with out := 1, adr := 2, smp := 3 } :=
  ⟨⟨rfl, rfl, fun i => by cases i <;> rfl⟩, by decide⟩

/-- The largest product that fits, and the one of R126 with a negative operand. -/
theorem witness_AluMulWidensShiftsNarrows :
    ((0x7FFFFFFF : Fx).toInt * (0x00010000 : Fx).toInt / 65536 < 2147483648 ∧
      -2147483648 ≤ (0x7FFFFFFF : Fx).toInt * (0x00010000 : Fx).toInt / 65536) ∧
    ((0x80000000 : Fx).toInt * (0x00010000 : Fx).toInt / 65536 < 2147483648 ∧
      -2147483648 ≤ (0x80000000 : Fx).toInt * (0x00010000 : Fx).toInt / 65536) := by decide

theorem witness_AluMasksAndConstruction :
    (-32768 ≤ (0xFFFF8000 : Fx).toInt ∧ (0xFFFF8000 : Fx).toInt ≤ 32767) ∧
    (-32768 ≤ (0x00007FFF : Fx).toInt ∧ (0x00007FFF : Fx).toInt ≤ 32767) := by decide

/-- Both ends of the domain, zero, and values truncated from both sides (R122, T1). -/
theorem witness_FloatRoundTrip :
    fromFloat (-32768) = some 0x80000000 ∧ fromFloat (-1 / 100000) = some 0 ∧ fromFloat 0 = some 0 ∧
    fromFloat (199999 / 100000) = some 131071 ∧ fromFloat (3276799999 / 100000) = some 0x7FFFFFFF := by decide +kernel

/-- The first and the last argument with a right neighbour, and the monotone clause. -/
theorem witness_SinqNonDecreasing :
    ((0 : Fin 1025).val = (0 : Fin 16385).val / 16 ∧ (1 : Fin 1025).val = (0 : Fin 1025).val + 1) ∧
    ((1023 : Fin 1025).val = (16383 : Fin 16385).val / 16 ∧ (1024 : Fin 1025).val = (1023 : Fin 1025).val + 1) ∧
    (16320 : Fin 16385) ≤ 16384 := by decide

/-- The integer parts -17, -16, -1, 0, 14, 15, 31, 32 (95_test_vectors.md 2.3), and the last pair of table positions. -/
theorem witness_Exp2ShiftStage :
    (0xFFEFFFFF : Fx).toInt / 65536 = -17 ∧ (0xFFF00000 : Fx).toInt / 65536 = -16 ∧
    (0xFFFFFFFF : Fx).toInt / 65536 = -1 ∧ (0x0000FFFF : Fx).toInt / 65536 = 0 ∧
    (0x000EFFFF : Fx).toInt / 65536 = 14 ∧ (0x000F0000 : Fx).toInt / 65536 = 15 ∧
    (0x001FFFFF : Fx).toInt / 65536 = 31 ∧ (0x00200000 : Fx).toInt / 65536 = 32 ∧
    ((1023 : Fin 1025).val = (0x0000FFFF : Fx).toNat % 65536 / 64 ∧
      (1024 : Fin 1025).val = (1023 : Fin 1025).val + 1) := by decide

theorem witness_Exp2NonDecreasing :
    -1048576 ≤ (0xFFF00000 : Fx).toInt ∧ (0xFFF00000 : Fx).toInt ≤ (0x000EFFFF : Fx).toInt ∧
    (0x000EFFFF : Fx).toInt < 983040 := by decide

/-- One envelope in each state. -/
theorem witness_EnvelopeUpdateCases :
    { EnvGen.reset with st := .attack }.st = .attack ∧ { EnvGen.reset with st := .decay }.st = .decay ∧
    { EnvGen.reset with st := .release }.st = .release ∧ { EnvGen.reset with st := .sustain }.st = .sustain ∧
    EnvGen.reset.st = .idle := ⟨rfl, rfl, rfl, rfl, rfl⟩

/-- `CNT` = 0 and 4, the longest period, `DIV` lowered below `CNT` (R343), and `DIV` = 0. -/
theorem witness_DividerPeriod :
    (({ EnvGen.reset with div := 2 }).cnt.toNat + 1 < ({ EnvGen.reset with div := 2 }).div.toNat ∧
      ({ EnvGen.reset with div := 2 }).cnt.toNat < ({ EnvGen.reset with div := 2 }).div.toNat) ∧
    ({ EnvGen.reset with div := 10, cnt := 4 }).cnt.toNat + 5 < ({ EnvGen.reset with div := 10, cnt := 4 }).div.toNat ∧
    ({ EnvGen.reset with div := 65535, cnt := 65534 }).cnt.toNat <
      ({ EnvGen.reset with div := 65535, cnt := 65534 }).div.toNat ∧
    (({ EnvGen.reset with div := 2, cnt := 4 }).cnt.toNat ≤ 65534 ∧
      ({ EnvGen.reset with div := 2, cnt := 4 }).div.toNat ≤ ({ EnvGen.reset with div := 2, cnt := 4 }).cnt.toNat + 1) ∧
    (({ EnvGen.reset with div := 0, cnt := 65534 }).cnt.toNat ≤ 65534 ∧
      ({ EnvGen.reset with div := 0, cnt := 65534 }).div.toNat ≤
        ({ EnvGen.reset with div := 0, cnt := 65534 }).cnt.toNat + 1) := by decide

theorem witness_SearchResultForm : Config.reference.envFloor = 0 ∧ Config.reference.envStart = 0x00010000 := ⟨rfl, rfl⟩

/-- Both ends of the range and the levels beside them; the error -177 of E5 is reached at 65536. -/
theorem witness_SearchWithinEpsilon :
    (0 ≤ (0 : Fx).toInt ∧ (0 : Fx).toInt ≤ 65536) ∧ (0 ≤ (65536 : Fx).toInt ∧ (65536 : Fx).toInt ≤ 65536) ∧
    (0xFFFFFFFF : Fx).toInt < 0 ∧ 65536 < (0x00010001 : Fx).toInt ∧
    (releaseCurve Config.reference (search Config.reference 65536)).toInt - 65536 = -177 := by decide +kernel

theorem witness_EnvInv : EnvInv State.reset := fun i => by cases i <;> decide

/-- A step that leaves Release for Idle, from a state that meets the invariant. -/
theorem witness_StepKeepsEnvInv :
    EnvInv (given (withEnv { EnvGen.reset with st := .release, rr := 0x00010000 }) (.host 0x0100000000)) ∧
    ∃ t, step (given (withEnv { EnvGen.reset with st := .release, rr := 0x00010000 }) (.host 0x0100000000)) = .next t :=
  ⟨fun i => by cases i <;> decide, _, rfl⟩

/-- The envelope state of operator 3 after one TICK. -/
def ticked (e : EnvGen) : Option EnvState :=
  (stepped (withEnv e) (.host 0x0100000000)).map fun t => t.voice.op3.eg.st

/-- One step for each way in. -/
theorem witness_EnvelopeEntries :
    NoReset (given State.reset (.host 0x0100000000)) ∧
    ticked { EnvGen.reset with st := .release, rr := 0x00010000 } = some .idle ∧
    ticked { EnvGen.reset with st := .decay, dr := 0x00010000, susen := true } = some .sustain ∧
    ticked { EnvGen.reset with st := .decay, dr := 0x00010000 } = some .release ∧
    ticked { EnvGen.reset with st := .attack, ar := 0x00010000 } = some .decay ∧
    (host 0x0200000000).map (fun t => t.voice.op3.eg.st) = some .attack ∧
    (host 0x0300000000).map (fun t => t.voice.op3.eg.st) = some .release := by decide +kernel

/-- The smallest and the largest positive rate, the largest counter. -/
theorem witness_AttackReachesDecay :
    (0 < ({ EnvGen.reset with ar := 1, cnt := 65534 }).ar.toInt ∧
      ({ EnvGen.reset with ar := 1, cnt := 65534 }).cnt.toNat ≤ 65534) ∧
    0 < ({ EnvGen.reset with ar := 0x7FFFFFFF }).ar.toInt := by decide

/-- The smallest rate from the top; the indexes 0 and -0.125 (R198); the lowest difference that does not wrap. -/
theorem witness_ReleaseReachesIdle :
    (0 < ({ EnvGen.reset with st := .release, rr := 1 }).idx.toInt ∧
      0 < ({ EnvGen.reset with st := .release, rr := 1 }).rr.toInt) ∧
    ((0 : Fx).toInt ≤ 0 ∧ -2147483648 ≤ (0 : Fx).toInt - (0x7FFFFFFF : Fx).toInt) ∧
    ((0xFFFFE000 : Fx).toInt ≤ 0 ∧ -2147483648 ≤ (0xFFFFE000 : Fx).toInt - (0x7FFFE000 : Fx).toInt) := by decide

/-- First and last phase of each quadrant. -/
theorem witness_SineShapes :
    ((0x3FFF : U16).toNat / 16384 = 0 ∧ (16383 : Fin 16385).val = (0x3FFF : U16).toNat % 16384) ∧
    ((0x4000 : U16).toNat / 16384 = 1 ∧ (16384 : Fin 16385).val = 16384 - (0x4000 : U16).toNat % 16384) ∧
    ((0x7FFF : U16).toNat / 16384 = 1 ∧ (1 : Fin 16385).val = 16384 - (0x7FFF : U16).toNat % 16384) ∧
    ((0x8000 : U16).toNat / 16384 = 2 ∧ (0 : Fin 16385).val = (0x8000 : U16).toNat % 16384) ∧
    ((0xC000 : U16).toNat / 16384 = 3 ∧ (16384 : Fin 16385).val = 16384 - (0xC000 : U16).toNat % 16384) ∧
    ((0xFFFF : U16).toNat / 16384 = 3 ∧ (1 : Fin 16385).val = 16384 - (0xFFFF : U16).toNat % 16384) := by decide

theorem witness_QuarterAndSquareShapes :
    ((16383 : Fin 16385).val = (0x3FFF : U16).toNat % 16384 ∧ (0x3FFF : U16).toNat / 16384 = 0) ∧
    ((0 : Fin 16385).val = (0x4000 : U16).toNat % 16384 ∧ (0x4000 : U16).toNat / 16384 = 1) ∧
    ((16383 : Fin 16385).val = (0xBFFF : U16).toNat % 16384 ∧ (0xBFFF : U16).toNat / 16384 = 2) ∧
    ((0 : Fin 16385).val = (0xC000 : U16).toNat % 16384 ∧ (0xC000 : U16).toNat / 16384 = 3) := by decide

/-- Both sides of the fold, in each quadrant range. -/
theorem witness_FastShapes :
    ((16382 : Fin 16385).val = 2 * ((0x1FFF : U16).toNat % 16384) ∧ (0x1FFF : U16).toNat % 16384 < 8192 ∧
      (0x1FFF : U16).toNat / 16384 = 0) ∧
    ((16384 : Fin 16385).val = 2 * (16384 - (0x6000 : U16).toNat % 16384) ∧ ¬ (0x6000 : U16).toNat % 16384 < 8192 ∧
      (0x6000 : U16).toNat / 16384 = 1) ∧
    ((0 : Fin 16385).val = 2 * ((0x8000 : U16).toNat % 16384) ∧ 2 ≤ (0x8000 : U16).toNat / 16384) := by decide

theorem witness_SawishShape :
    ((0x3FFF : U16).toNat / 16384 = 0 ∧ (8191 : Fin 16385).val = (0x3FFF : U16).toNat % 16384 / 2) ∧
    ((0x7FFF : U16).toNat / 16384 = 1 ∧ (16383 : Fin 16385).val = 8192 + (0x7FFF : U16).toNat % 16384 / 2) ∧
    ((0x8000 : U16).toNat / 16384 = 2 ∧ (16384 : Fin 16385).val = 16384 - (0x8000 : U16).toNat % 16384 / 2) ∧
    ((0xFFFF : U16).toNat / 16384 = 3 ∧ (1 : Fin 16385).val = 8192 - (0xFFFF : U16).toNat % 16384 / 2) := by decide

/-- The phase 0x9000 of vector O7. -/
theorem witness_OperatorSampleLaw :
    (0x9000 : U16).toNat = ((opSample Config.reference (opAt .fullSine 255 128 0x2000 0x3000 0x3C00 0x10000)).1.pg.acc.toNat
      + (0x3000 : Fx).toNat + (0x2000 : Fx).toNat) % 65536 := by decide +kernel

theorem witness_SilenceGuarantee :
    (opAt .fullSine 0 255 0x1234 0x4000 0x3C00 0x10000).tl = 0 ∧
    (envSample Config.reference (opAt .fullSine 255 255 0x1234 0x4000 0x3C00 0).eg).2 = 0 := by decide +kernel

theorem witness_OperatorOutputRange :
    0 ≤ (envSample Config.reference (opAt .square 255 255 0 0 0x7C00 0x10000).eg).2.toInt ∧
    (envSample Config.reference (opAt .square 255 255 0 0 0x7C00 0x10000).eg).2.toInt ≤ 65536 := by decide +kernel

theorem witness_NormalVoice : NormalVoice ordinaryVoice := fun i => by
  cases i <;>
    exact ⟨by decide, by decide, by decide, by decide, by decide,
      ⟨show 0 < (0x00010000 : Fx).toInt ∧ (0x00010000 : Fx).toInt ≤ 65536 by decide, by decide, by decide⟩, by decide,
      by decide⟩

/-- An instruction at each bound, a word that is rejected, and no input. -/
theorem witness_NormalVoiceIsKept :
    NoReset (given { State.reset with voice := ordinaryVoice } (.host 0x0100000000)) ∧
    NoReset { State.reset with voice := ordinaryVoice } ∧
    decode (.host 0x0100000000) = .ok .tick ∧ normalInstr .tick ∧
    normalInstr (.wrAr .o0 0x40000000) ∧ normalInstr (.noteOn 0x000EFFFF) ∧ normalInstr (.wrTune .o0 0x0007FFFF) ∧
    (∃ t, step (given { State.reset with voice := ordinaryVoice } (.host 0x0100000000)) = .next t) ∧
    (∃ t, step (given { State.reset with voice := ordinaryVoice } (.host 0x0600000000)) = .next t) ∧
    ∃ t, step { State.reset with voice := ordinaryVoice } = .next t :=
  ⟨by decide, by decide, by decide, trivial, show NormalRate 0x40000000 by decide, show NormalPitch 0x000EFFFF by decide,
    show NormalTune 0x0007FFFF by decide, ⟨_, rfl⟩, ⟨_, rfl⟩, ⟨_, rfl⟩⟩

/-- The same voice as a state; `witness_NormalVoice` is its premise. -/
theorem witness_NormalTickNeverWraps : tickWraps Config.reference ordinaryVoice = false := by decide +kernel

/-! ### The overflow policy (U1) -/

/-- Whether a command stops with the overflow fault. -/
def faults (o : Host.Outcome State Fault Refusal) : Bool :=
  match o with
  | .fault .overflow => true
  | .next _ => false
  | .refused _ => false

/-- The reference parameters under the cautious policy. -/
def cautious : Config := { Config.reference with ovf := .fault }

/-- The wrapping rows of 95_test_vectors.md 2.1 fault under the cautious policy and not under the default. -/
theorem test_ovf_alu :
    faults (runAluAdd cautious 0x7FFFFFFF 1 State.reset) = true ∧
    faults (runAluSub cautious 0x80000000 1 State.reset) = true ∧
    faults (runAluMul cautious 0x01000000 0x01000000 State.reset) = true ∧
    faults (runAluAdd cautious 0x00010000 0x00008000 State.reset) = false ∧
    faults (runAluAdd Config.reference 0x7FFFFFFF 1 State.reset) = false := by decide +kernel

/-- A TICK whose pitch sum wraps (R344), one of R268 that does not, and a NOTE_OFF with a search. -/
theorem test_ovf_tick :
    faults (runTick cautious { State.reset with
      voice := four { sineOp with pg := { acc := 0, pitch := 0x7FFFFFFF, tune := 1 } } }) = true ∧
    faults (runTick cautious sinePatch) = false ∧ faults (runNoteOff cautious sinePatch) = false := by decide +kernel

theorem witness_ReferenceTablesMonotonicAndRouted : (1020 : Fin 1025) ≤ 1024 ∧ (0 : Fin 1025) < 1 := by decide

end Sys2Proof.Tests
end

section
/-! Which words the decoder refuses with `reservedFunction`: those of a stand-alone ALU with `fn` 11 to 15 (R99, R103,
R135), and no other. -/

namespace Sys2Proof

theorem decodeVoiceCmd_ne_reservedFunction (n : BitVec 7) (data : BitVec 32) :
    decodeVoiceCmd n data ≠ .error .reservedFunction := by
  unfold decodeVoiceCmd
  split <;> simp

theorem decodeWr_ne_reservedFunction (i : OpIdx) (r : BitVec 5) (data : BitVec 32) :
    decodeWr i r data ≠ .error .reservedFunction := by
  unfold decodeWr
  split <;> simp

theorem decodeHost_ne_reservedFunction (cmd : BitVec 40) : decodeHost cmd ≠ .error .reservedFunction := by
  unfold decodeHost
  split
  · exact decodeWr_ne_reservedFunction _ _ _
  · exact decodeVoiceCmd_ne_reservedFunction _ _

theorem decodeAlu_eq_reservedFunction_iff (fn : BitVec 4) (a b : BitVec 32) :
    decodeAlu fn a b = .error .reservedFunction ↔ 11 ≤ fn.toNat := by
  unfold decodeAlu
  split
  case h_12 => grind -- the rejecting arm: the code is none of 0 to 10
  all_goals simp; omega

end Sys2Proof
end

section
/-! One equation per kind of input that a step can take (R16, R303, R330). -/

namespace Sys2Proof.Machine

theorem step_of_no_input {s : State} (h : s.inputs = []) : step s = .next s.idle := by
  simp [step, fetch, h]

theorem step_of_rst {s : State} {rest : List Input} (h : s.inputs = .rst :: rest) :
    step s = .next (s.takeReset rest) := by
  simp [step, fetch, h]

theorem step_of_decode_ok {s : State} {w : PortWord} {rest : List Input} {i : Instr}
    (h : s.inputs = .present w :: rest) (hd : decode w = .ok i) : step s = exec i (s.accept rest) := by
  simp [step, fetch, h, hd]

theorem step_of_decode_error {s : State} {w : PortWord} {rest : List Input} {r : DecodeReject}
    (h : s.inputs = .present w :: rest) (hd : decode w = .error r) : step s = takeReject r (s.accept rest) := by
  simp [step, fetch, h, hd]

/-- Settles O2: the step's equation for a word that decodes, with `State.accept` written out. -/
theorem stepRunsDecodedInstruction : Obligations.StepRunsDecodedInstruction :=
  fun _ _ _ _ hin hd => step_of_decode_ok hin hd

end Sys2Proof.Machine
end

section
/-! Totality of the step (R18, R309, R135). -/

namespace Sys2Proof.Machine

open Sys2Proof.Safety

/-- A reserved function code is next exactly when the next word is one the decoder refuses as such. -/
theorem reservedAluNext_iff_decode (s : State) :
    reservedAluNext s = true ↔
      ∃ w rest, s.inputs = .present w :: rest ∧ decode w = .error .reservedFunction := by
  unfold reservedAluNext
  rcases s.inputs with _ | ⟨_ | (cmd | ⟨fn, a, b⟩ | ⟨sel, p⟩), rest⟩
  · simp
  · simp
  · simp [decode, decodeHost_ne_reservedFunction]
  · simp [decode, decodeAlu_eq_reservedFunction_iff]
  · simp [decode]

/-- A rejected word other than a reserved ALU function completes the step, as every other input does. -/
theorem step_next_of_not_reservedFunction {s : State}
    (h : ∀ w rest, s.inputs = .present w :: rest → decode w ≠ .error .reservedFunction) :
    ∃ t, step s = .next t := by
  rcases hin : s.inputs with _ | ⟨_ | w, rest⟩
  · exact ⟨_, step_of_no_input hin⟩
  · exact ⟨_, step_of_rst hin⟩
  · rcases hd : decode w with r | i
    · have hr : r ≠ .reservedFunction := fun e => h w rest hin (e ▸ hd)
      obtain ⟨-, ht⟩ | ⟨e, -⟩ := takeReject_cases r (s.accept rest)
      · exact ⟨_, (step_of_decode_error hin hd).trans ht⟩
      · exact absurd e hr
    · rw [step_of_decode_ok hin hd]
      exact exec_next i _

/-- Settles O8: by the kind of the next input; only the refused function codes stop the step. -/
theorem stepIsTotal : Obligations.StepIsTotal := by
  intro s
  constructor
  · intro h
    apply step_next_of_not_reservedFunction
    intro w rest hin hd
    have hres : reservedAluNext s = true := (reservedAluNext_iff_decode s).2 ⟨w, rest, hin, hd⟩
    simp [h] at hres
  · intro h
    obtain ⟨w, rest, hin, hd⟩ := (reservedAluNext_iff_decode s).1 h
    exact step_of_decode_error hin hd

end Sys2Proof.Machine
end

section
/-! What each instruction and each step can do to the registers of one operator, said once (R20, R282, R341). -/

namespace Sys2Proof.Machine

@[simp] theorem Voice.reset_op (i : OpIdx) : Voice.reset.op i = Operator.reset := by cases i <;> rfl

/-- A TICK runs OP.SAMPLE once on every operator, at some modulation (R255, R256). -/
theorem tick_op (c : Config) (v : Voice) (i : OpIdx) :
    ∃ m, (tick c v).op i = (opSample c { v.op i with modin := m }).1 := by
  cases i <;> simp [tick, tickOps, tickOp_op, modulated_eq] <;> exact ⟨_, rfl⟩

/-- A TICK advances every envelope by one EG.SAMPLE (R190, R240). -/
theorem tick_op_eg (c : Config) (v : Voice) (i : OpIdx) : ((tick c v).op i).eg = envAdvance c (v.op i).eg := by
  obtain ⟨m, h⟩ := tick_op c v i
  rw [h]
  rfl

/-- The registers an envelope writes itself agree: `ST`, `IDX`, `LVL` and `CNT` (R45, kind D). -/
def EnvGen.SameProgress (e e' : EnvGen) : Prop :=
  e'.st = e.st ∧ e'.idx = e.idx ∧ e'.lvl = e.lvl ∧ e'.cnt = e.cnt

theorem EnvGen.sameProgress_rfl {e : EnvGen} : e.SameProgress e := ⟨rfl, rfl, rfl, rfl⟩

/-- A write to one operator that keeps the progress of its envelope keeps that of all four. -/
theorem updateOp_sameProgress (s : State) (k : OpIdx) {f : Operator → Operator}
    (hf : ∀ o : Operator, o.eg.SameProgress (f o).eg) (j : OpIdx) :
    (s.voice.op j).eg.SameProgress ((s.updateOp k f).voice.op j).eg := by
  rw [State.updateOp_voice, Voice.setOp_op]
  split
  · next hj => exact hj ▸ hf _
  · exact EnvGen.sameProgress_rfl

/-- A bounded write to one operator does so as well, accepted or rejected (R282, R304). -/
theorem checked_updateOp_sameProgress {max : Nat} {data : BitVec 32} {s t : State} {k : OpIdx}
    {f : Operator → Operator} (h : checked max data (s.updateOp k f) s = .next t)
    (hf : ∀ o : Operator, o.eg.SameProgress (f o).eg) (j : OpIdx) :
    (s.voice.op j).eg.SameProgress (t.voice.op j).eg := by
  rw [checked_next] at h
  cases h
  split
  · exact updateOp_sameProgress s k hf j
  · simpa using EnvGen.sameProgress_rfl

/-- What an instruction can do to an envelope: TICK samples it, NOTE_ON opens it, NOTE_OFF closes it, and every other
instruction leaves its progress alone (R255, R263, R264, R282). -/
theorem exec_eg_cases {i : Instr} {s t : State} (h : exec i s = .next t) (j : OpIdx) :
    (i = .tick ∧ (t.voice.op j).eg = envAdvance Config.reference (s.voice.op j).eg) ∨
    (∃ pitch, i = .noteOn pitch ∧ (t.voice.op j).eg = envOpen Config.reference (s.voice.op j).eg) ∨
    (i = .noteOff ∧ (t.voice.op j).eg = envClose Config.reference (s.voice.op j).eg) ∨
    (s.voice.op j).eg.SameProgress (t.voice.op j).eg := by
  cases i
  case tick =>
    cases h
    exact .inl ⟨rfl, tick_op_eg _ _ j⟩
  case noteOn pitch =>
    cases h
    exact .inr (.inl ⟨pitch, rfl, by simp [openAll, broadcastPitch]⟩)
  case noteOff =>
    cases h
    exact .inr (.inr (.inl ⟨rfl, by simp [closeAll]⟩))
  all_goals refine .inr (.inr (.inr ?_))
  case setFreq =>
    cases h
    simpa [broadcastPitch] using EnvGen.sameProgress_rfl
  case setAlg n =>
    rw [exec, execSetAlg, checked_next] at h
    cases h
    split <;> cases j <;> exact EnvGen.sameProgress_rfl
  case wrWave | wrTl | wrFbl | wrSusen | wrDiv =>
    exact checked_updateOp_sameProgress h (fun _ => ⟨rfl, rfl, rfl, rfl⟩) j
  case wrTune | wrAr | wrDr | wrRr | wrSl =>
    cases h
    refine updateOp_sameProgress s _ (fun _ => ?_) j
    exact ⟨rfl, rfl, rfl, rfl⟩
  -- NOP and the stand-alone units do not touch the voice.
  all_goals
    cases h
    exact EnvGen.sameProgress_rfl

end Sys2Proof.Machine
end

section
/-! The envelope invariant (R40, R196 (b)): the four operations of an envelope keep it, so every step does. -/

namespace Sys2Proof.Machine

open Sys2Proof.Safety

theorem envWellKept_reset : EnvWellKept EnvGen.reset := ⟨by decide, fun _ => ⟨rfl, rfl⟩⟩

theorem EnvGen.SameProgress.envWellKept {e e' : EnvGen} (h : e.SameProgress e') (he : EnvWellKept e) :
    EnvWellKept e' := by
  obtain ⟨hst, hidx, hlvl, hcnt⟩ := h
  simpa [EnvWellKept, hst, hidx, hlvl, hcnt] using he

theorem envOpen_envWellKept (c : Config) {e : EnvGen} (he : EnvWellKept e) : EnvWellKept (envOpen c e) :=
  ⟨he.1, fun h => nomatch h⟩

theorem envClose_envWellKept (c : Config) {e : EnvGen} (he : EnvWellKept e) : EnvWellKept (envClose c e) := by
  rw [envClose_eq]
  exact ⟨he.1, fun h => nomatch h⟩

/-- Idle is entered with `IDX` = `ENV_START` and `LVL` = 0 only, and is left as it is (R194, R195). -/
theorem envUpdate_idle_values {e : EnvGen}
    (he : e.st = .idle → e.idx = Config.reference.envStart ∧ e.lvl = 0)
    (h : (envUpdate Config.reference e).st = .idle) :
    (envUpdate Config.reference e).idx = Config.reference.envStart ∧ (envUpdate Config.reference e).lvl = 0 := by
  rcases envUpdate_cases Config.reference e with
    ⟨_, hu⟩ | ⟨hst, hu, _⟩ | ⟨_, hu⟩ | ⟨hst, hu, _⟩ | ⟨_, hu⟩ | ⟨hst, hu, _⟩ | ⟨_, hu⟩ <;> rw [hu] at h ⊢
  · cases h
  · cases hst.symm.trans h
  · dsimp only at h
    split at h <;> cases h
  · cases hst.symm.trans h
  · exact ⟨rfl, rfl⟩
  · cases hst.symm.trans h
  · exact he h

/-- The divider restarts at 0, or counts to a value below `DIV`, at most 65534 (R40, R190). -/
theorem envAdvance_envWellKept {e : EnvGen} (he : EnvWellKept e) : EnvWellKept (envAdvance Config.reference e) := by
  obtain ⟨-, hidle⟩ := he
  rcases envAdvance_cases Config.reference e with ⟨-, h⟩ | ⟨hlt, h⟩ <;> rw [h]
  · refine ⟨?_, envUpdate_idle_values hidle⟩
    rw [(envUpdate_frame _ _).1]
    exact Nat.zero_le _
  · have hdiv := e.div.isLt
    exact ⟨by dsimp only; omega, hidle⟩

/-- Settles O44: each of the four envelopes is `EnvGen.reset`. -/
theorem resetMeetsEnvInv : Obligations.ResetMeetsEnvInv := fun i => by
  rw [State.reset, Voice.reset_op]
  exact envWellKept_reset

theorem exec_envInv {i : Instr} {s t : State} (hs : EnvInv s) (h : exec i s = .next t) : EnvInv t := fun j => by
  obtain ⟨-, he⟩ | ⟨-, -, he⟩ | ⟨-, he⟩ | he := exec_eg_cases h j
  · exact he ▸ envAdvance_envWellKept (hs j)
  · exact he ▸ envOpen_envWellKept _ (hs j)
  · exact he ▸ envClose_envWellKept _ (hs j)
  · exact he.envWellKept (hs j)

/-- Settles O45, by what a step can do: only an instruction or `rst` changes an envelope. -/
theorem stepKeepsEnvInv : Obligations.StepKeepsEnvInv := by
  intro s t hs h
  obtain ⟨-, rfl⟩ | ⟨rest, -, rfl⟩ | ⟨w, rest, i, -, -, hex⟩ | ⟨w, rest, r, -, -, -, rfl⟩ := step_cases h
  · exact hs
  · exact resetMeetsEnvInv
  · exact exec_envInv (s := s.accept rest) hs hex
  · simpa [EnvInv] using hs

end Sys2Proof.Machine
end

section
/-! TICK leaves the configuration registers and the flags alone (R45, R309). -/

namespace Sys2Proof.Machine

open Sys2Proof.Safety

/-- OP.SAMPLE keeps the eleven configuration registers of its operator (R45, R240). -/
theorem opSample_sameConfig (c : Config) (o : Operator) : SameConfig o (opSample c o).1 := by
  obtain ⟨-, hwave, htl, hfbl, hpitch, htune, heg, -⟩ := opSample_frame c o
  rw [SameConfig, heg]
  exact ⟨hwave, htl, hfbl, hpitch, htune, envAdvance_frame c o.eg⟩

theorem tick_sameConfig (c : Config) (v : Voice) (i : OpIdx) : SameConfig (v.op i) ((tick c v).op i) := by
  obtain ⟨m, h⟩ := tick_op c v i
  rw [h]
  exact opSample_sameConfig c { v.op i with modin := m }

/-- Settles O22: TICK changes the voice by `tick` and pulses `sample_valid`. -/
theorem tickKeepsConfiguration : Obligations.TickKeepsConfiguration := by
  intro s t h
  cases (execTick_eq s).symm.trans h
  obtain ⟨halg, herr⟩ := tick_alg_err Config.reference s.voice
  exact ⟨halg, herr, rfl, rfl, rfl, tick_sameConfig Config.reference s.voice⟩

end Sys2Proof.Machine
end

section
/-! TICK reads no scratch register of an earlier TICK (R25, R26, R27, R29, R256). The turns of the loop run over voices
that agree on all but `SMP` and `MODIN`, and the turn of an operator makes it equal in both. -/

namespace Sys2Proof.Machine

open Sys2Proof.Safety

/-- The two voices agree on everything a turn of TICK's loop may read: all but `SMP` and the four `MODIN`. -/
def AgreeForTurn (v v' : Voice) : Prop := AgreeForTick v v' ∧ v'.out = v.out ∧ v'.adr = v.adr

/-- The start of a sample period makes `OUT` and `ADR` equal (R25, R26). -/
theorem agreeForTurn_clearScratch {v v' : Voice} (h : AgreeForTick v v') :
    AgreeForTurn v.clearScratch v'.clearScratch :=
  ⟨by simpa [AgreeForTick] using h, rfl, rfl⟩

section
variable {v v' : Voice} (h : AgreeForTurn v v')
include h

theorem AgreeForTurn.route (c : Config) (i : OpIdx) : v'.route c i = v.route c i := by
  obtain ⟨⟨halg, -⟩, -⟩ := h
  rw [Voice.route, Voice.route, halg]

theorem AgreeForTurn.reg (sel : RouteSel) : v'.reg sel = v.reg sel := by
  obtain ⟨-, hout, hadr⟩ := h
  cases sel
  · rfl
  · exact hout
  · exact hadr

/-- The operator a turn samples has its old `MODIN` overwritten (R29, R255). -/
theorem AgreeForTurn.modulated (c : Config) (i : OpIdx) : v'.modulated c i = v.modulated c i := by
  rw [modulated_eq, modulated_eq, h.route, h.reg]
  obtain ⟨⟨-, -, hop⟩, -⟩ := h
  exact congrArg (fun o : Operator => { o with modin := v.reg (v.route c i).src }) (hop i)

theorem AgreeForTurn.setOp (i : OpIdx) (o : Operator) : AgreeForTurn (v.setOp i o) (v'.setOp i o) := by
  obtain ⟨⟨halg, herr, hop⟩, hout, hadr⟩ := h
  refine ⟨⟨by simpa using halg, by simpa using herr, fun j => ?_⟩, by simpa using hout, by simpa using hadr⟩
  rw [Voice.setOp_op, Voice.setOp_op]
  split
  · rfl
  · exact hop j

theorem AgreeForTurn.sink (sel : RouteSel) (y : Fx) : AgreeForTurn (v.sink sel y) (v'.sink sel y) := by
  obtain ⟨hagree, hout, hadr⟩ := h
  refine ⟨by simpa [AgreeForTick] using hagree, ?_, ?_⟩ <;> cases sel <;> simp [hout, hadr]

theorem AgreeForTurn.turn (c : Config) (i : OpIdx) : AgreeForTurn (tickOp c v i) (tickOp c v' i) := by
  rw [tickOp, tickOp, h.modulated, h.route]
  exact (h.setOp i _).sink _ _

/-- After its turn an operator is the same in both voices. -/
theorem AgreeForTurn.turn_op (c : Config) {i j : OpIdx} (hj : j = i ∨ v'.op j = v.op j) :
    (tickOp c v' i).op j = (tickOp c v i).op j := by
  rw [tickOp_op, tickOp_op, h.modulated]
  split
  · rfl
  · next hne => exact hj.resolve_left hne

/-- By induction on the turns: the voices still agree, and every operator that had its turn is the same in both. -/
theorem AgreeForTurn.turns (c : Config) (is : List OpIdx) :
    AgreeForTurn (is.foldl (tickOp c) v) (is.foldl (tickOp c) v') ∧
      ∀ j, j ∈ is ∨ v'.op j = v.op j →
        (is.foldl (tickOp c) v').op j = (is.foldl (tickOp c) v).op j := by
  induction is generalizing v v' with
  | nil => exact ⟨h, fun j hj => hj.resolve_left List.not_mem_nil⟩
  | cons i is ih =>
    obtain ⟨hagree, hops⟩ := ih (h.turn c i)
    refine ⟨hagree, fun j hj => hops j ?_⟩
    rw [List.mem_cons, or_assoc, or_left_comm] at hj
    exact hj.imp_right (h.turn_op c)

end

theorem tickOps_eq_foldl (c : Config) (v : Voice) :
    tickOps c v = [OpIdx.o0, .o1, .o2, .o3].foldl (tickOp c) v := rfl

/-- Settles O23: every operator has its turn, and `SMP` is latched from registers on which the voices agree. -/
theorem tickIgnoresOldScratch : Obligations.TickIgnoresOldScratch := by
  intro c v v' h
  obtain ⟨hagree, hops⟩ := (agreeForTurn_clearScratch h).turns c [.o0, .o1, .o2, .o3]
  rw [← tickOps_eq_foldl, ← tickOps_eq_foldl] at hagree hops
  have hsmp : (tick c v').smp = (tick c v).smp := by
    rw [tick, tick, Voice.latchSample_smp, Voice.latchSample_smp, hagree.route, hagree.reg]
  obtain ⟨⟨halg, herr, -⟩, hout, hadr⟩ := hagree
  have hmem : ∀ j, j ∈ [OpIdx.o0, .o1, .o2, .o3] := fun j => by cases j <;> decide
  exact Voice.ext_op halg hout hadr hsmp herr fun j => by simpa [tick] using hops j (.inl (hmem j))

end Sys2Proof.Machine
end

section
/-! Nothing reads `ERR` (R28, R302 (d)): every operation of the machine commutes with a write of `ERR`, and a reject is
the one operation whose next `ERR` depends on the one before. -/

namespace Sys2Proof.Machine

open Sys2Proof.Safety

/-- The voice with another value in `ERR`. -/
def Voice.withErr (v : Voice) (e : BitVec 2) : Voice := { v with err := e }

@[simp] theorem Voice.withErr_op (v : Voice) (e : BitVec 2) (i : OpIdx) : (v.withErr e).op i = v.op i := by
  cases i <;> rfl

@[simp] theorem Voice.withErr_route (c : Config) (v : Voice) (e : BitVec 2) (i : OpIdx) :
    (v.withErr e).route c i = v.route c i := rfl

@[simp] theorem Voice.withErr_reg (v : Voice) (e : BitVec 2) (sel : RouteSel) : (v.withErr e).reg sel = v.reg sel := by
  cases sel <;> rfl

@[simp] theorem Voice.withErr_setOp (v : Voice) (e : BitVec 2) (i : OpIdx) (o : Operator) :
    (v.withErr e).setOp i o = (v.setOp i o).withErr e := by cases i <;> rfl

@[simp] theorem Voice.withErr_sink (v : Voice) (e : BitVec 2) (sel : RouteSel) (y : Fx) :
    (v.withErr e).sink sel y = (v.sink sel y).withErr e := by cases sel <;> rfl

@[simp] theorem tickOp_withErr (c : Config) (v : Voice) (e : BitVec 2) (i : OpIdx) :
    tickOp c (v.withErr e) i = (tickOp c v i).withErr e := by simp [tickOp, modulated_eq]

theorem tick_withErr (c : Config) (v : Voice) (e : BitVec 2) : tick c (v.withErr e) = (tick c v).withErr e := by
  have hclear : (v.withErr e).clearScratch = v.clearScratch.withErr e := rfl
  have hlatch : ∀ w : Voice, (w.withErr e).latchSample c = (w.latchSample c).withErr e := fun w => by
    rw [Voice.latchSample, Voice.withErr_reg]
    rfl
  simp [tick, tickOps, hclear, hlatch]

/-- The update gives the same state whether `ERR` is written before it or after it. -/
def CommutesWithErr (g : State → State) : Prop := ∀ s e, g (withErr s e) = withErr (g s) e

theorem commutesWithErr_updateOp (i : OpIdx) (f : Operator → Operator) : CommutesWithErr (·.updateOp i f) := by
  intro s e
  show s.setVoice ((s.voice.withErr e).setOp i (f ((s.voice.withErr e).op i))) = _
  rw [Voice.withErr_setOp, Voice.withErr_op]
  rfl

theorem commutesWithErr_tick (c : Config) : CommutesWithErr fun s => s.deliver (tick c s.voice) := by
  intro s e
  show s.deliver (tick c (s.voice.withErr e)) = _
  rw [tick_withErr]
  rfl

/-- A command whose outcome `ERR` reaches in `ERR` only. -/
def ErrBlind (f : State → Host.Outcome State Fault Refusal) : Prop :=
  ∀ s t e, f s = .next t → ∃ e', f (withErr s e) = .next (withErr t e')

theorem CommutesWithErr.errBlind_next {g : State → State} (hg : CommutesWithErr g) : ErrBlind fun s => .next (g s) := by
  intro s t e h
  cases h
  exact ⟨e, congrArg _ (hg s e)⟩

/-- A rejected write raises a bit of whatever `ERR` holds (R302, R304). -/
theorem CommutesWithErr.errBlind_checked {g : State → State} (hg : CommutesWithErr g) (max : Nat) (data : BitVec 32) :
    ErrBlind fun s => checked max data (g s) s := by
  intro s t e h
  simp only [checked_next] at h ⊢
  cases h
  split
  · exact ⟨e, congrArg _ (hg s e)⟩
  · exact ⟨raiseErr .badval e, rfl⟩

theorem exec_errBlind (i : Instr) : ErrBlind (exec i) := by
  cases i
  case tick => exact (commutesWithErr_tick _).errBlind_next
  case wrWave | wrTl | wrFbl | wrSusen | wrDiv => exact (commutesWithErr_updateOp _ _).errBlind_checked _ _
  case wrTune | wrAr | wrDr | wrRr | wrSl => exact (commutesWithErr_updateOp _ _).errBlind_next
  case setAlg n =>
    have hset : CommutesWithErr fun s => s.setVoice { s.voice with alg := lowBits 3 n } := fun _ _ => rfl
    exact hset.errBlind_checked _ _
  -- NOP, the broadcasts and the stand-alone units.
  all_goals exact CommutesWithErr.errBlind_next fun _ _ => rfl

theorem step_errBlind : ErrBlind step := by
  intro s t e h
  obtain ⟨hin, rfl⟩ | ⟨rest, hin, rfl⟩ | ⟨w, rest, i, hin, hd, hex⟩ | ⟨w, rest, r, hin, hd, hr, rfl⟩ := step_cases h
  · exact ⟨e, step_of_no_input hin⟩
  · exact ⟨0, step_of_rst hin⟩
  · obtain ⟨e', he'⟩ := exec_errBlind i _ _ e hex
    exact ⟨e', (step_of_decode_ok (s := withErr s e) hin hd).trans he'⟩
  · refine ⟨raiseErr .badop e, (step_of_decode_error (s := withErr s e) hin hd).trans ?_⟩
    obtain ⟨-, ht⟩ | ⟨hres, -⟩ := takeReject_cases r ((withErr s e).accept rest)
    · exact ht
    · exact absurd hres hr

/-- Settles O7: the step from the other `ERR` answers the same state but for `ERR`. -/
theorem nothingReadsErr : Obligations.NothingReadsErr := by
  intro s t e h
  obtain ⟨e', he'⟩ := step_errBlind s t e h
  exact ⟨withErr t e', he', rfl⟩

end Sys2Proof.Machine
end

section
/-! The reference tables (R64, R67, R69, R70). A table is monotonic when every entry is in order with the next one, so
each table is read once, entry by entry. -/

namespace Sys2Proof.Machine

theorem sinRom_le_next (i : Fin 1024) :
    (Config.reference.sinRom i.castSucc).toNat ≤ (Config.reference.sinRom i.succ).toNat := by
  revert i
  decide +kernel

theorem expRom_lt_next (i : Fin 1024) :
    (Config.reference.expRom i.castSucc).toNat < (Config.reference.expRom i.succ).toNat := by
  revert i
  decide +kernel

theorem sinRom_monotone : Monotone fun i => (Config.reference.sinRom i).toNat :=
  Fin.monotone_iff_le_succ.mpr sinRom_le_next

theorem expRom_strictMono : StrictMono fun i => (Config.reference.expRom i).toNat :=
  Fin.strictMono_iff_lt_succ.mpr expRom_lt_next

/-- Algorithm 0 is the serial chain: operator 0 is not modulated, each other one by its predecessor (R69 (a)). -/
theorem routeRule_algorithm_zero (i : OpIdx) :
    routeRule (Config.reference.algRom 0) i = { src := if i = .o0 then .none else .output, snk := .output } := by
  cases i <;> rfl

/-- Algorithm 7 is fully parallel: no operator is modulated, and all are summed (R69 (b)). -/
theorem routeRule_algorithm_seven (i : OpIdx) :
    routeRule (Config.reference.algRom 7) i = { src := .none, snk := .adder } := by
  cases i <;> rfl

/-- The rules of the eight words hold selectors 0 to 2 only (R70, R102). -/
theorem algRom_selectors_ne_three (n : BitVec 3) (i : OpIdx) :
    (routeNibble (Config.reference.algRom n) i).extractLsb' 2 2 ≠ 3 ∧
      (routeNibble (Config.reference.algRom n) i).extractLsb' 0 2 ≠ 3 := by
  revert n
  cases i <;> decide

/-- Settles O60: the order of the two tables from that of neighbouring entries, the routes word by word. -/
theorem referenceTablesMonotonicAndRouted : Obligations.ReferenceTablesMonotonicAndRouted :=
  ⟨fun _ _ h => sinRom_monotone h, fun _ _ h => expRom_strictMono h, routeRule_algorithm_zero,
    routeRule_algorithm_seven, algRom_selectors_ne_three⟩

end Sys2Proof.Machine
end

section
/-! The fields of a command word (R93 to R95): every word is an opcode and its data, and every opcode is that of a
voice-level command or of a WR. -/

namespace Sys2Proof

/-- The opcode of a voice-level command: bit 7 is 0 (R94). -/
def voiceOpcode (n : BitVec 7) : BitVec 8 := 0#1 ++ n

theorem voiceOpcode_toNat (n : BitVec 7) : (voiceOpcode n).toNat = n.toNat := by decide +revert

theorem wrOpcode_toNat (i : OpIdx) (r : BitVec 5) :
    (wrOpcode i r).toNat = 128 + 32 * i.bits.toNat + r.toNat := by
  cases i <;> decide +revert

theorem opcode_cases (op : BitVec 8) : (∃ n, op = voiceOpcode n) ∨ ∃ i r, op = wrOpcode i r := by
  by_cases h : op.getLsbD 7
  · refine .inr ⟨OpIdx.ofBits (op.extractLsb' 5 2), op.extractLsb' 0 5, ?_⟩
    decide +revert
  · refine .inl ⟨op.extractLsb' 0 7, ?_⟩
    decide +revert

theorem hostWord_opcodeOf_dataOf (cmd : BitVec 40) : hostWord (opcodeOf cmd) (dataOf cmd) = cmd :=
  (BitVec.extractLsb'_append_extractLsb'_eq_extractLsb' rfl).trans BitVec.extractLsb'_eq_self

theorem hostCmd_cases (cmd : BitVec 40) :
    (∃ n data, cmd = hostWord (voiceOpcode n) data) ∨ ∃ i r data, cmd = hostWord (wrOpcode i r) data := by
  have hcmd := (hostWord_opcodeOf_dataOf cmd).symm
  obtain ⟨n, hop⟩ | ⟨i, r, hop⟩ := opcode_cases (opcodeOf cmd) <;> rw [hop] at hcmd
  · exact .inl ⟨n, _, hcmd⟩
  · exact .inr ⟨i, r, _, hcmd⟩

theorem hostWord_toNat_div (op : BitVec 8) (data : BitVec 32) : (hostWord op data).toNat / 2 ^ 32 = op.toNat := by
  rw [← opcodeOf_toNat, opcodeOf_hostWord]

theorem decode_voiceOpcode (n : BitVec 7) (data : BitVec 32) :
    decode (.host (hostWord (voiceOpcode n) data)) = decodeVoiceCmd n data := by
  have hbit : (voiceOpcode n).getLsbD 7 = false := by decide +revert
  have hn : (voiceOpcode n).extractLsb' 0 7 = n := by decide +revert
  rw [decode, decodeHost, opcodeOf_hostWord, dataOf_hostWord, hbit, hn]
  rfl

theorem decode_wrOpcode (i : OpIdx) (r : BitVec 5) (data : BitVec 32) :
    decode (.host (hostWord (wrOpcode i r) data)) = decodeWr i r data := by
  have hbit : (wrOpcode i r).getLsbD 7 = true := by cases i <;> decide +revert
  have hi : (wrOpcode i r).extractLsb' 5 2 = i.bits := by cases i <;> decide +revert
  have hr : (wrOpcode i r).extractLsb' 0 5 = r := by cases i <;> decide +revert
  rw [decode, decodeHost, opcodeOf_hostWord, dataOf_hostWord, hbit, hi, hr, OpIdx.ofBits_bits]
  rfl

end Sys2Proof
end

section
/-! Decoding an encoded instruction (R93 to R100, R105). -/

namespace Sys2Proof

/-- Settles O10, by the format of the instruction: a voice-level command, a WR, or a word of a stand-alone unit. -/
theorem decodeOfEncode : Obligations.DecodeOfEncode := by
  intro i
  cases i
  case nop => exact decode_voiceOpcode 0 _
  case tick => exact decode_voiceOpcode 1 _
  case noteOn => exact decode_voiceOpcode 2 _
  case noteOff => exact decode_voiceOpcode 3 _
  case setFreq => exact decode_voiceOpcode 4 _
  case setAlg => exact decode_voiceOpcode 5 _
  case wrWave | wrTl | wrFbl | wrTune | wrAr | wrDr | wrRr | wrSl | wrSusen | wrDiv => exact decode_wrOpcode _ _ _
  -- Formats A and W: the function code and the selector are literals.
  all_goals rfl

/-- Settles O9: the five command words by their opcode and data, the words of the stand-alone units by computation. -/
theorem specWordsDecode : Obligations.SpecWordsDecode :=
  ⟨decode_voiceOpcode 2 0x0008C807, decode_wrOpcode .o2 1 255, decode_wrOpcode .o0 0 7, decode_voiceOpcode 1 0,
    decode_wrOpcode .o3 9 3, rfl, rfl⟩

end Sys2Proof
end

section
/-! Which words the decoder rejects (R94, R95, R99, R103). -/

namespace Sys2Proof

theorem decodeVoiceCmd_eq_error_iff (n : BitVec 7) (data : BitVec 32) (e : DecodeReject) :
    decodeVoiceCmd n data = .error e ↔ e = .reservedOpcode ∧ 6 ≤ n.toNat := by
  unfold decodeVoiceCmd
  split
  case h_7 => grind -- the rejecting arm: the number is none of 0 to 5
  all_goals simp; omega

theorem decodeWr_eq_error_iff (i : OpIdx) (r : BitVec 5) (data : BitVec 32) (e : DecodeReject) :
    decodeWr i r data = .error e ↔ e = .reservedRegister ∧ 10 ≤ r.toNat := by
  unfold decodeWr
  split
  case h_11 => grind -- the rejecting arm: the register number is none of 0 to 9
  all_goals simp; omega

theorem decode_eq_reservedOpcode_iff (cmd : BitVec 40) :
    decode (.host cmd) = .error .reservedOpcode ↔ 6 ≤ cmd.toNat / 2 ^ 32 ∧ cmd.toNat / 2 ^ 32 < 128 := by
  obtain ⟨n, data, rfl⟩ | ⟨i, r, data, rfl⟩ := hostCmd_cases cmd
  · rw [decode_voiceOpcode, decodeVoiceCmd_eq_error_iff, hostWord_toNat_div, voiceOpcode_toNat]
    simp [n.isLt]
  · rw [decode_wrOpcode, decodeWr_eq_error_iff, hostWord_toNat_div, wrOpcode_toNat]
    simp; omega

theorem decode_eq_reservedRegister_iff (cmd : BitVec 40) :
    decode (.host cmd) = .error .reservedRegister ↔
      128 ≤ cmd.toNat / 2 ^ 32 ∧ 10 ≤ cmd.toNat / 2 ^ 32 % 32 := by
  obtain ⟨n, data, rfl⟩ | ⟨i, r, data, rfl⟩ := hostCmd_cases cmd
  · have hn := n.isLt
    rw [decode_voiceOpcode, decodeVoiceCmd_eq_error_iff, hostWord_toNat_div, voiceOpcode_toNat]
    simp; omega
  · have hr := r.isLt
    rw [decode_wrOpcode, decodeWr_eq_error_iff, hostWord_toNat_div, wrOpcode_toNat]
    simp; omega

/-- Settles O12, by the two kinds of command word; a waveform word has no rejecting arm. -/
theorem rejectedWords : Obligations.RejectedWords :=
  ⟨decode_eq_reservedOpcode_iff, decode_eq_reservedRegister_iff, decodeAlu_eq_reservedFunction_iff,
    fun sel p => ⟨decodeWave sel p, rfl⟩⟩

end Sys2Proof
end

section
/-! Encoding a decoded instruction (R93 to R100): the word comes back, but for the data of NOP, TICK and NOTE_OFF and
the second operand of FRAC and FROMI, which decoding drops (R96, R99). In the lemma of each format the selector is first
written `BitVec.ofNat _ k.toNat`, so that it becomes a literal where the decoder's arm gives the value of `k.toNat`. -/

namespace Sys2Proof

theorem decodeVoiceCmd_ok_cases {n : BitVec 7} {data : BitVec 32} {i : Instr} (h : decodeVoiceCmd n data = .ok i) :
    encode i = .host (hostWord (voiceOpcode n) data) ∨
      (i = .nop ∧ n = 0) ∨ (i = .tick ∧ n = 1) ∨ (i = .noteOff ∧ n = 3) := by
  have hn : BitVec.ofNat 7 n.toNat = n := by simp
  rw [← hn]
  unfold decodeVoiceCmd at h
  split at h
  case h_7 => cases h
  case h_1 hk | h_2 hk | h_4 hk => -- NOP, TICK and NOTE_OFF
    cases h
    simp [hk]
  all_goals
    next hk =>
    cases h
    rw [hk]
    exact .inl rfl

theorem encode_of_decodeWr {o : OpIdx} {r : BitVec 5} {data : BitVec 32} {i : Instr} (h : decodeWr o r data = .ok i) :
    encode i = .host (hostWord (wrOpcode o r) data) := by
  have hr : BitVec.ofNat 5 r.toNat = r := by simp
  rw [← hr]
  unfold decodeWr at h
  split at h
  case h_11 => cases h
  all_goals
    next hk =>
    cases h
    rw [hk]
    rfl

theorem decodeAlu_ok_cases {fn : BitVec 4} {a b : BitVec 32} {i : Instr} (h : decodeAlu fn a b = .ok i) :
    encode i = .alu fn a b ∨ (i = .aluFrac a ∧ fn = 7) ∨ (i = .aluFromi a ∧ fn = 8) := by
  have hfn : BitVec.ofNat 4 fn.toNat = fn := by simp
  rw [← hfn]
  unfold decodeAlu at h
  split at h
  case h_12 => cases h
  case h_8 hk | h_9 hk => -- FRAC and FROMI
    cases h
    simp [hk]
  all_goals
    next hk =>
    cases h
    rw [hk]
    exact .inl rfl

theorem encode_decodeWave (sel : BitVec 3) (p : U16) : encode (decodeWave sel p) = .wave sel p := by
  conv_rhs => rw [← Machine.Shape.code_ofCode sel]
  rw [decodeWave]
  cases Machine.Shape.ofCode sel <;> rfl

/-- Every word that decodes is an encoding, or is one of the five instructions that ignore a field of it. -/
theorem decode_ok_cases {w : PortWord} {i : Instr} (h : decode w = .ok i) :
    encode i = w ∨
      (∃ data, (i = .nop ∧ w = .host (hostWord 0x00 data)) ∨ (i = .tick ∧ w = .host (hostWord 0x01 data)) ∨
        (i = .noteOff ∧ w = .host (hostWord 0x03 data))) ∨
      ∃ a b, (i = .aluFrac a ∧ w = .alu 7 a b) ∨ (i = .aluFromi a ∧ w = .alu 8 a b) := by
  rcases w with cmd | ⟨fn, a, b⟩ | ⟨sel, p⟩
  · obtain ⟨n, data, rfl⟩ | ⟨o, r, data, rfl⟩ := hostCmd_cases cmd
    · rw [decode_voiceOpcode] at h
      obtain hi | ⟨rfl, rfl⟩ | ⟨rfl, rfl⟩ | ⟨rfl, rfl⟩ := decodeVoiceCmd_ok_cases h
      · exact .inl hi
      · exact .inr (.inl ⟨data, .inl ⟨rfl, rfl⟩⟩)
      · exact .inr (.inl ⟨data, .inr (.inl ⟨rfl, rfl⟩)⟩)
      · exact .inr (.inl ⟨data, .inr (.inr ⟨rfl, rfl⟩)⟩)
    · rw [decode_wrOpcode] at h
      exact .inl (encode_of_decodeWr h)
  · obtain hi | ⟨rfl, rfl⟩ | ⟨rfl, rfl⟩ := decodeAlu_ok_cases h
    · exact .inl hi
    · exact .inr (.inr ⟨a, b, .inl ⟨rfl, rfl⟩⟩)
    · exact .inr (.inr ⟨a, b, .inr ⟨rfl, rfl⟩⟩)
  · cases h
    exact .inl (encode_decodeWave sel p)

/-- Settles O11, by what a word that decodes can be; an encoding is of the stated form for every instruction. -/
theorem encodeOfDecode : Obligations.EncodeOfDecode := by
  intro w i h
  obtain rfl | ⟨data, ⟨rfl, rfl⟩ | ⟨rfl, rfl⟩ | ⟨rfl, rfl⟩⟩ | ⟨a, b, ⟨rfl, rfl⟩ | ⟨rfl, rfl⟩⟩ := decode_ok_cases h
  · cases i
    case nop | tick | noteOff => exact hostWord_toNat_div _ _
    case aluFrac | aluFromi => exact ⟨rfl, rfl⟩
    all_goals rfl
  · exact hostWord_toNat_div _ _
  · exact hostWord_toNat_div _ _
  · exact hostWord_toNat_div _ _
  · exact ⟨rfl, rfl⟩
  · exact ⟨rfl, rfl⟩

end Sys2Proof
end

section
/-! The ALU functions as 32-bit arithmetic (R121, R124 to R133): the law of each function that Laws/Alu does not give. -/

namespace Sys2Proof.Machine

/-- The narrowing of the integer product of two words is the product of the narrowed ones (D5, R307). -/
theorem s32_mul (m n : Int) : s32 (m * n) = s32 m * s32 n := BitVec.ofInt_mul m n

theorem s32_two_pow (n : Nat) : s32 (2 ^ n) = BitVec.twoPow 32 n := by
  apply BitVec.eq_of_toNat_eq
  rw [s32, BitVec.toNat_ofInt, BitVec.toNat_twoPow]
  norm_cast

theorem setWidth_eq_s32_toInt (v : BitVec 64) : v.setWidth 32 = s32 v.toInt := by
  apply BitVec.eq_of_toNat_eq
  rw [s32, BitVec.toNat_setWidth, BitVec.toNat_ofInt, BitVec.toInt_eq_toNat_bmod, Int.bmod_def]
  omega

/-- The product of two 32-bit values is a 64-bit value (R126). -/
theorem signExtend_mul_toInt (a b : Fx) : (a.signExtend 64 * b.signExtend 64).toInt = a.toInt * b.toInt := by
  rw [BitVec.toInt_mul, BitVec.toInt_signExtend_of_le (by decide), BitVec.toInt_signExtend_of_le (by decide)]
  have lo := BitVec.le_toInt_mul_toInt (x := a) (y := b)
  have hi := BitVec.toInt_mul_toInt_le (x := a) (y := b)
  exact Int.bmod_eq_of_le (by omega) (by omega)

theorem fxMul_eq (a b : Fx) :
    fxMul a b = ((a.signExtend 64 * b.signExtend 64).sshiftRight 16).setWidth 32 := by
  rw [setWidth_eq_s32_toInt, BitVec.toInt_sshiftRight, signExtend_mul_toInt]
  rfl

/-- MUL by a whole number is an exact product: no bit is lost below the point (R136). -/
theorem fxMul_of_toInt_eq {a : Fx} {k : Int} (ha : a.toInt = k * 65536) (b : Fx) : fxMul a b = s32 k * b := by
  have hprod : a.toInt * b.toInt / 2 ^ fracBits = k * b.toInt := by
    rw [ha, Int.mul_right_comm]
    exact Int.mul_ediv_cancel _ (by decide)
  rw [fxMul, asr_eq_div, hprod, s32_mul, s32_toInt_self]

theorem fxMul_one_left (b : Fx) : fxMul 0x00010000 b = b := by
  rw [fxMul_of_toInt_eq (k := 1) rfl]
  exact BitVec.one_mul b

theorem fxMul_negOne_left (b : Fx) : fxMul 0xFFFF0000 b = -b := by
  rw [fxMul_of_toInt_eq (k := -1) rfl, BitVec.neg_eq_neg_one_mul]
  rfl

theorem fxShl_eq (a b : Fx) : fxShl a b = a <<< (b.toNat % 32) := by
  rw [fxShl, shiftAmount_eq, Int.shiftLeft_eq, s32_mul, s32_toInt_self, s32_two_pow, BitVec.shiftLeft_eq_mul_twoPow]

theorem fxShr_eq (a b : Fx) : fxShr a b = a.sshiftRight (b.toNat % 32) := by
  rw [fxShr, shiftAmount_eq, asr, ← BitVec.toInt_sshiftRight, s32_toInt_self]

/-- SHR is the floor of the quotient by a power of two (R129). -/
theorem fxShr_toInt (a b : Fx) : (fxShr a b).toInt = a.toInt / 2 ^ (b.toNat % 32) := by
  rw [fxShr_eq, BitVec.toInt_sshiftRight]
  exact asr_eq_div _ _

/-- FRAC is the reduction modulo 1.0, for negative values too (R131). -/
theorem fxFrac_toInt (a : Fx) : (fxFrac a).toInt = a.toInt % 65536 := by
  have h : (fxFrac a).toNat = a.toNat % 65536 := Nat.and_two_pow_sub_one_eq_mod a.toNat 16
  rw [BitVec.toInt_eq_toNat_bmod, BitVec.toInt_eq_toNat_bmod, h, Int.bmod_def, Int.bmod_def]
  omega

/-- FROMI keeps the low 16 bits of `k`, as a signed integer part (R121). -/
theorem fxFromi_toInt (k : BitVec 32) : (fxFromi k).toInt = 65536 * (k.setWidth 16).toInt := by
  have hscale : (2 : Int) ^ fracBits = 65536 := rfl
  rw [fxFromi, s32, BitVec.toInt_ofInt, Int.shiftLeft_eq, hscale, BitVec.toInt_setWidth, BitVec.toInt_eq_toNat_bmod,
    Int.bmod_def, Int.bmod_def, Int.bmod_def]
  omega

theorem setWidth_toInt_of_small {k : BitVec 32} (lo : -32768 ≤ k.toInt) (hi : k.toInt ≤ 32767) :
    (k.setWidth 16).toInt = k.toInt := by
  rw [BitVec.toInt_eq_toNat_bmod, Int.bmod_def] at lo hi
  rw [BitVec.toInt_setWidth, BitVec.toInt_eq_toNat_bmod, Int.bmod_def, Int.bmod_def]
  omega

theorem boolWord_decide (p : Prop) [Decidable p] : boolWord (decide p) = if p then 1 else 0 := by
  simp [boolWord]

theorem fxEq_iff_toInt (a b : Fx) : fxEq a b = true ↔ a.toInt = b.toInt := by
  rw [fxEq_iff, BitVec.toInt_inj]

end Sys2Proof.Machine
end

section
/-! The ALU functions of a stand-alone ALU (R98, R99): `aluY` takes the result and nothing else changes. -/

namespace Sys2Proof.Machine

theorem exec_aluAdd (a b : Fx) (s : State) : exec (.aluAdd a b) s = .next (s.setAluY (a + b)) := by
  rw [← fxAdd_eq]
  rfl

theorem exec_aluSub (a b : Fx) (s : State) : exec (.aluSub a b) s = .next (s.setAluY (a - b)) := by
  rw [← fxSub_eq]
  rfl

theorem exec_aluMul (a b : Fx) (s : State) : exec (.aluMul a b) s = .next (s.setAluY (fxMul a b)) := rfl

theorem exec_aluMuli (a k : BitVec 32) (s : State) : exec (.aluMuli a k) s = .next (s.setAluY (a * k)) := by
  rw [← fxMuli_eq]
  rfl

theorem exec_aluShl (a b : Fx) (s : State) : exec (.aluShl a b) s = .next (s.setAluY (a <<< (b.toNat % 32))) := by
  rw [← fxShl_eq]
  rfl

theorem exec_aluShr (a b : Fx) (s : State) : exec (.aluShr a b) s = .next (s.setAluY (fxShr a b)) := rfl

theorem exec_aluAnd (a b : Fx) (s : State) : exec (.aluAnd a b) s = .next (s.setAluY (a &&& b)) := rfl

theorem exec_aluFrac (a : Fx) (s : State) : exec (.aluFrac a) s = .next (s.setAluY (fxFrac a)) := rfl

theorem exec_aluFromi (k : BitVec 32) (s : State) : exec (.aluFromi k) s = .next (s.setAluY (fxFromi k)) := rfl

theorem exec_aluEq (a b : Fx) (s : State) :
    exec (.aluEq a b) s = .next (s.setAluY (if a.toInt = b.toInt then 1 else 0)) := by
  rw [← boolWord_decide, decide_eq_decide.2 BitVec.toInt_inj]
  rfl

theorem exec_aluLt (a b : Fx) (s : State) :
    exec (.aluLt a b) s = .next (s.setAluY (if a.toInt < b.toInt then 1 else 0)) := by
  rw [← boolWord_decide]
  rfl

/-- Settles O28: the narrowed integer product is the 32-bit product. -/
theorem aluMuliNoRescale : Obligations.AluMuliNoRescale := fun a k s => ⟨rfl, exec_aluMuli a k s⟩

/-- Settles O25: ADD and SUB are those of 32-bit words, where SUB(a, b) = a + (0 - b). -/
theorem aluAddSub : Obligations.AluAddSub := by
  intro a b s
  refine ⟨rfl, exec_aluAdd a b s, rfl, exec_aluSub a b s, fxAdd_eq a b, fxSub_eq a b, ?_, ?_⟩
  · rw [fxAdd_eq, fxAdd_eq, BitVec.add_comm]
  · rw [← fxNeg, fxNeg_eq, fxSub_eq, fxAdd_eq, BitVec.sub_eq_add_neg]

/-- Settles O26: the product of two 32-bit values never leaves 64 bits, so the shift acts on the exact product. -/
theorem aluMulWidensShiftsNarrows : Obligations.AluMulWidensShiftsNarrows := fun a b s =>
  ⟨rfl, fxMul a b, exec_aluMul a b s, fxMul_eq a b, fxMul_toInt_of_fits, rfl, fxMul_comm a b⟩

/-- Settles O27: the rows of two literals by computation, the rows for every `b` as products by 0, 1 and -1. -/
theorem mulCornerTable : Obligations.MulCornerTable := by
  have hall (b : Fx) : fxMul 0 b = 0 ∧ fxMul 0x00010000 b = b ∧ fxMul 0xFFFF0000 b = fxNeg b ∧ fxNeg b = -b :=
    ⟨fxMul_zero_left b, fxMul_one_left b, (fxMul_negOne_left b).trans (fxNeg_eq b).symm, fxNeg_eq b⟩
  exact ⟨by decide, by decide, by decide, by decide, by decide, by decide, by decide, by decide, by decide, by decide,
    by decide, by decide, by decide, by decide, hall⟩

/-- Settles O29, by the laws of SHL and SHR. -/
theorem aluShifts : Obligations.AluShifts := fun a b s =>
  ⟨rfl, exec_aluShl a b s, rfl, fxShr a b, exec_aluShr a b s, fxShr_eq a b, fxShr_toInt a b⟩

/-- Settles O30, by the laws of FRAC and FROMI; a small `k` is what its low 16 bits say. -/
theorem aluMasksAndConstruction : Obligations.AluMasksAndConstruction := fun a b k s =>
  ⟨rfl, exec_aluAnd a b s, rfl, ⟨fxFrac a, exec_aluFrac a s, fxFrac_toInt a⟩, rfl,
    ⟨fxFromi k, exec_aluFromi k s, fxFromi_toInt k, fun lo hi => by
      rw [fxFromi_toInt, setWidth_toInt_of_small lo hi]⟩⟩

/-- Exactly one of LT(a, b), EQ(a, b), LT(b, a) holds, by the order of the integers (R132, R133). -/
theorem fxLt_fxEq_fxLt_trichotomy (a b : Fx) :
    (fxLt a b).toNat + (fxEq a b).toNat + (fxLt b a).toNat = 1 := by
  have heq : fxEq a b = decide (a.toInt = b.toInt) := decide_eq_decide.2 BitVec.toInt_inj.symm
  rw [heq, fxLt, fxLt]
  rcases lt_trichotomy a.toInt b.toInt with h | h | h
  · simp [h, h.ne, h.not_gt]
  · simp [h]
  · simp [h, h.ne', h.not_gt]

/-- Settles O31, by the order of the raw integers. -/
theorem aluComparisons : Obligations.AluComparisons := fun a b s =>
  ⟨rfl, exec_aluEq a b s, rfl, exec_aluLt a b s, fxEq_iff_toInt a b, fxLt_iff a b, fxLt_fxEq_fxLt_trichotomy a b⟩

end Sys2Proof.Machine
end

section
/-! FROM_FLOAT and TO_FLOAT (R122, R123): truncation toward zero on the rationals, and the domain in which the result is
an `fx`. -/

namespace Sys2Proof.Machine

theorem truncRat_of_nonneg {x : ℚ} (h : 0 ≤ x) : truncRat x = ⌊x⌋ := if_pos h

theorem truncRat_of_nonpos {x : ℚ} (h : x ≤ 0) : truncRat x = ⌈x⌉ := by
  obtain rfl | hx := h.eq_or_lt
  · simp [truncRat_of_nonneg]
  · rw [truncRat, if_neg hx.not_ge, Rat.ceil_eq_neg_floor_neg]
    rfl

/-- Truncation stays at or above an integer bound, and below a positive one. -/
theorem truncRat_bounds {x : ℚ} {m n : Int} (hn : 0 < n) (lo : m ≤ x) (hi : x < n) :
    m ≤ truncRat x ∧ truncRat x < n := by
  rcases le_total 0 x with h | h
  · rw [truncRat_of_nonneg h]
    exact ⟨Int.le_floor.2 lo, Int.floor_lt.2 hi⟩
  · rw [truncRat_of_nonpos h]
    have hlo : (m : ℚ) ≤ ⌈x⌉ := lo.trans (Int.le_ceil x)
    have hhi : ⌈x⌉ ≤ 0 := Int.ceil_le.2 (by simpa using h)
    exact ⟨by exact_mod_cast hlo, hhi.trans_lt hn⟩

/-- Truncation moves a value by less than 1. -/
theorem abs_truncRat_sub_lt (x : ℚ) : |(truncRat x : ℚ) - x| < 1 := by
  rw [abs_lt]
  rcases le_total 0 x with h | h
  · rw [truncRat_of_nonneg h]
    constructor <;> linarith [Int.floor_le x, Int.lt_floor_add_one x]
  · rw [truncRat_of_nonpos h]
    constructor <;> linarith [Int.le_ceil x, Int.ceil_lt_add_one x]

theorem fromFloat_eq_some_iff (x : ℚ) (v : Fx) :
    fromFloat x = some v ↔ (-32768 ≤ x ∧ x < 32768) ∧ v = s32 (truncRat (x * 65536)) := by
  have hscale : (2 : ℚ) ^ fracBits = 65536 := by norm_num
  rw [fromFloat, hscale]
  split
  · next h => simp [h, eq_comm]
  · next h => simp [h]

/-- In the domain of FROM_FLOAT the truncated value is an `fx`, so the raw value is exact. -/
theorem fromFloat_toInt {x : ℚ} {v : Fx} (h : fromFloat x = some v) : v.toInt = truncRat (x * 65536) := by
  obtain ⟨⟨lo, hi⟩, rfl⟩ := (fromFloat_eq_some_iff x v).1 h
  obtain ⟨hlo, hhi⟩ := truncRat_bounds (x := x * 65536) (m := -2147483648) (n := 2147483648) (by decide)
    (by push_cast; linarith) (by push_cast; linarith)
  exact s32_toInt_of_fits hlo hhi

theorem toFloat_eq (v : Fx) : toFloat v = (v.toInt : ℚ) / 65536 := by
  rw [toFloat]
  norm_num

/-- Settles O32: FROM_FLOAT truncates the scaled value, which moves it by less than one unit of 1/65536. -/
theorem floatRoundTrip : Obligations.FloatRoundTrip := by
  intro x
  refine ⟨by simp [fromFloat_eq_some_iff], fun v h => ?_⟩
  have hv := fromFloat_toInt h
  refine ⟨fun hx => ?_, fun hx => ?_, toFloat_eq v, ?_⟩
  · rw [hv, truncRat_of_nonneg (by linarith)]
  · rw [hv, truncRat_of_nonpos (by linarith)]
  · have hscaled : |(v.toInt : ℚ) - x * 65536| < 1 := hv ▸ abs_truncRat_sub_lt _
    rw [abs_lt] at hscaled ⊢
    rw [toFloat_eq]
    constructor <;> linarith

end Sys2Proof.Machine
end

section
/-! Where an operation wraps (U1, R138): not where the exact result fits, and then that is the result. -/

namespace Sys2Proof.Machine

theorem fits_iff (n : Int) : fits n = true ↔ -2147483648 ≤ n ∧ n < 2147483648 := by simp [fits]

theorem addWraps_eq_false_iff (a b : Fx) :
    addWraps a b = false ↔ -2147483648 ≤ a.toInt + b.toInt ∧ a.toInt + b.toInt < 2147483648 := by
  rw [addWraps, Bool.not_eq_false', fits_iff]

theorem subWraps_eq_false_iff (a b : Fx) :
    subWraps a b = false ↔ -2147483648 ≤ a.toInt - b.toInt ∧ a.toInt - b.toInt < 2147483648 := by
  rw [subWraps, Bool.not_eq_false', fits_iff]

theorem mulWraps_eq_false_iff (a b : Fx) :
    mulWraps a b = false ↔ -2147483648 ≤ a.toInt * b.toInt / 65536 ∧ a.toInt * b.toInt / 65536 < 2147483648 := by
  rw [mulWraps, Bool.not_eq_false', fits_iff, asr_eq_div]
  rfl

theorem fxAdd_toInt {a b : Fx} (h : addWraps a b = false) : (fxAdd a b).toInt = a.toInt + b.toInt := by
  obtain ⟨lo, hi⟩ := (addWraps_eq_false_iff a b).1 h
  exact s32_toInt_of_fits lo hi

theorem fxSub_toInt {a b : Fx} (h : subWraps a b = false) : (fxSub a b).toInt = a.toInt - b.toInt := by
  obtain ⟨lo, hi⟩ := (subWraps_eq_false_iff a b).1 h
  exact s32_toInt_of_fits lo hi

/-- The product of two values in [-1.0, 1.0] does not wrap and stays in [-1.0, 1.0] (R138). -/
theorem fxMul_unit {a b : Fx} (ha : |a.toInt| ≤ 65536) (hb : |b.toInt| ≤ 65536) :
    mulWraps a b = false ∧ |(fxMul a b).toInt| ≤ 65536 := by
  have hprod : |a.toInt * b.toInt| ≤ 65536 * 65536 := by
    rw [abs_mul]
    exact mul_le_mul ha hb (abs_nonneg _) (by decide)
  rw [abs_le] at hprod
  have hquot : -65536 ≤ a.toInt * b.toInt / 65536 ∧ a.toInt * b.toInt / 65536 ≤ 65536 := by omega
  rw [mulWraps_eq_false_iff, fxMul_toInt_of_fits (by omega) (by omega), abs_le]
  omega

end Sys2Proof.Machine
end

section
/-! How large the lookups, the waveform and the gain can be (R155, R231, R241). -/

namespace Sys2Proof.Machine

theorem exp2Mantissa_lt (c : Config) (frac : U16) : exp2Mantissa c frac < 2 ^ 17 :=
  Nat.add_lt_add_left (BitVec.isLt _) _

/-- EXP2 of an argument whose integer part is at most `k` is below 2.0 * 2^k and not negative (R154). -/
theorem exp2_bounds (c : Config) {x : Fx} {k : Nat} (hk : k ≤ 14) (hx : x.toInt / 65536 ≤ k) :
    0 ≤ (exp2 c x).toInt ∧ (exp2 c x).toInt < 2 ^ (17 + k) := by
  have hm := exp2Mantissa_lt c (exp2Frac x)
  have hn : exp2Int x = x.toInt / 65536 := asr_eq_div x.toInt 16
  have hfits : 2 ^ (17 + k) ≤ 2 ^ 31 := Nat.pow_le_pow_right (by decide) (by omega)
  have hnarrow (r : Nat) (hr : r < 2 ^ (17 + k)) : 0 ≤ (s32 r).toInt ∧ (s32 r).toInt < 2 ^ (17 + k) := by
    rw [s32_toInt_of_fits (by omega) (by omega)]
    exact ⟨by omega, by exact_mod_cast hr⟩
  rw [exp2, exp2Scale_eq, hn]
  split_ifs with hpos
  · exact hnarrow 0 (by positivity)
  · apply hnarrow
    rw [Nat.shiftLeft_eq, Nat.pow_add]
    exact Nat.mul_lt_mul_of_lt_of_le hm (Nat.pow_le_pow_right (by decide) (by omega)) (by positivity)
  · exact hnarrow 0 (by positivity)
  · apply hnarrow
    calc exp2Mantissa c (exp2Frac x) >>> (-(x.toInt / 65536)).toNat
      _ ≤ exp2Mantissa c (exp2Frac x) := Nat.shiftRight_le _ _
      _ < 2 ^ 17 := hm
      _ ≤ 2 ^ (17 + k) := Nat.pow_le_pow_right (by decide) (by omega)

theorem zeroExtend_bounds (p : U16) : 0 ≤ (p.setWidth 32 : Fx).toInt ∧ (p.setWidth 32 : Fx).toInt < 65536 := by
  have hp := p.isLt
  rw [BitVec.toInt_setWidth, Int.bmod_eq_of_le] <;> omega

theorem sineAt_bounds (c : Config) (a : Fin 16385) : 0 ≤ (sineAt c a).toInt ∧ (sineAt c a).toInt < 65536 :=
  zeroExtend_bounds _

theorem abs_sineAt_le (c : Config) (a : Fin 16385) : |(sineAt c a).toInt| ≤ 65536 := by
  have := sineAt_bounds c a
  rw [abs_le]
  omega

/-- The sign flip of the shapes does not wrap, because S(a) is not negative. -/
theorem abs_neg_sineAt_le (c : Config) (a : Fin 16385) : |(-sineAt c a).toInt| ≤ 65536 := by
  have hbounds := sineAt_bounds c a
  have hzero : (0 : Fx).toInt = 0 := rfl
  have hflip : subWraps 0 (sineAt c a) = false := by
    rw [subWraps_eq_false_iff]
    omega
  rw [← fxNeg_eq, fxNeg, fxSub_toInt hflip, abs_le]
  omega

/-- Every shape is a sine entry, its negation, 0 or a constant ±1.0 in each quadrant, so it stays in [-1.0, 1.0]
(R231). -/
theorem abs_waveform_le (c : Config) (sel : Shape) (p : U16) : |(waveform c sel p).toInt| ≤ 65536 := by
  cases sel <;> cases hq : quadrant p <;>
    simp [waveform, hq, fullSine, halfSine, dblHalfSine, dblQuartSine, fastSine, fastHalfSine, sawish, square,
      abs_sineAt_le, abs_neg_sineAt_le]

/-- A level as a gain is in [0, 1.0] (R241). -/
theorem abs_scale8_le (v : BitVec 8) : |(Config.reference.scale8 v).toInt| ≤ 65536 := by
  have hv := v.isLt
  have hgain : v.toNat * 65536 / 255 ≤ 65536 := by omega
  have h : (Config.reference.scale8 v).toInt = (v.toNat * 65536 / 255 : Nat) := by
    show (s32 (v.toNat * 65536 / 255 : Nat)).toInt = _
    exact s32_toInt_of_fits (by omega) (by omega)
  rw [h, abs_le]
  omega

end Sys2Proof.Machine
end

section
/-! An envelope in the ordinary operating range: no SUB of EG.SAMPLE wraps, and the envelope stays in the range (R138,
R198). -/

namespace Sys2Proof.Machine

open Sys2Proof.Safety

/-- An envelope with ordinary rates, its index and level in range. -/
def NormalEnv (e : EnvGen) : Prop := NormalRate e.ar ∧ NormalRate e.dr ∧ NormalRate e.rr ∧ EnvInRange e

theorem idx_bounds_of_envInRange {e : EnvGen} (h : EnvInRange e) :
    -0x40000000 ≤ e.idx.toInt ∧ e.idx.toInt ≤ 65536 := by
  obtain ⟨hidx, -⟩ := h
  split at hidx <;> omega

/-- A step down the curve: the difference fits, and lies below 1.0. -/
theorem idx_sub_rate {idx rate : Fx} (hidx : -0x40000000 ≤ idx.toInt ∧ idx.toInt ≤ 65536) (hrate : NormalRate rate) :
    subWraps idx rate = false ∧ (idx - rate).toInt = idx.toInt - rate.toInt ∧ (idx - rate).toInt < 65536 := by
  obtain ⟨hpos, hmax⟩ := hrate
  have hfits : subWraps idx rate = false := by
    rw [subWraps_eq_false_iff]
    omega
  have hsub := fxSub_toInt hfits
  rw [fxSub_eq] at hsub
  exact ⟨hfits, hsub, by omega⟩

section
variable {idx : Fx} (h : idx.toInt < 65536)
include h

theorem exp2_bounds_of_lt_one (c : Config) : 0 ≤ (exp2 c idx).toInt ∧ (exp2 c idx).toInt < 131072 :=
  exp2_bounds c (k := 0) (by decide) (by omega)

theorem attackCurve_bounds :
    subWraps Config.reference.envUpper (exp2 Config.reference idx) = false ∧
      0 < (attackCurve Config.reference idx).toInt := by
  have hexp := exp2_bounds_of_lt_one h Config.reference
  have hupper : Config.reference.envUpper.toInt = 131072 := rfl
  have hfits : subWraps Config.reference.envUpper (exp2 Config.reference idx) = false := by
    rw [subWraps_eq_false_iff]
    omega
  rw [attackCurve, fxSub_toInt hfits]
  exact ⟨hfits, by omega⟩

theorem releaseCurve_bounds :
    subWraps (exp2 Config.reference idx) Config.reference.envLower = false ∧
      -65536 ≤ (releaseCurve Config.reference idx).toInt ∧ (releaseCurve Config.reference idx).toInt ≤ 65536 := by
  have hexp := exp2_bounds_of_lt_one h Config.reference
  have hlower : Config.reference.envLower.toInt = 65536 := rfl
  have hfits : subWraps (exp2 Config.reference idx) Config.reference.envLower = false := by
    rw [subWraps_eq_false_iff]
    omega
  rw [releaseCurve, fxSub_toInt hfits]
  exact ⟨hfits, by omega⟩

end

theorem envWraps_eq_false {e : EnvGen} (h : NormalEnv e) : envWraps Config.reference e = false := by
  obtain ⟨har, hdr, hrr, hrange⟩ := h
  have hidx := idx_bounds_of_envInRange hrange
  rw [envWraps, Bool.and_eq_false_iff]
  right
  split
  · obtain ⟨hstep, -, hlt⟩ := idx_sub_rate hidx har
    rw [fxSub_eq, hstep, (attackCurve_bounds hlt).1]
    rfl
  · obtain ⟨hstep, -, hlt⟩ := idx_sub_rate hidx hdr
    rw [fxSub_eq, hstep, (releaseCurve_bounds hlt).1]
    rfl
  · obtain ⟨hstep, -, hlt⟩ := idx_sub_rate hidx hrr
    rw [fxSub_eq, hstep, (releaseCurve_bounds hlt).1]
    rfl
  · rfl
  · rfl

/-- EG.UPDATE keeps the ordinary range: a phase that goes on leaves its index above the floor, and a phase that ends
sets the index to 1.0 or leaves it where the next phase can start (R192 to R195, R198). -/
theorem envUpdate_envInRange {e : EnvGen} (h : NormalEnv e) : EnvInRange (envUpdate Config.reference e) := by
  obtain ⟨har, hdr, hrr, hrange⟩ := h
  have hidx := idx_bounds_of_envInRange hrange
  have hstart : Config.reference.envStart.toInt = 65536 := rfl
  have hfloor : Config.reference.envFloor.toInt = 0 := rfl
  have hone : fxOne.toInt = 65536 := rfl
  obtain ⟨-, hasub, halt⟩ := idx_sub_rate hidx har
  obtain ⟨-, hdsub, hdlt⟩ := idx_sub_rate hidx hdr
  obtain ⟨-, hrsub, hrlt⟩ := idx_sub_rate hidx hrr
  rcases envUpdate_cases Config.reference e with
    ⟨hst, hu⟩ | ⟨hst, hu, hlvl, hpos⟩ | ⟨hst, hu⟩ | ⟨hst, hu, -, hpos⟩ | ⟨hst, hu⟩ | ⟨hst, hu, -, hpos⟩ | ⟨-, hu⟩ <;>
    rw [hu]
  · simp [EnvInRange, hstart, hone]
  · have := attackCurve_bounds halt
    simp only [EnvInRange, hst]
    omega
  · have := releaseCurve_bounds hdlt
    simp only [EnvInRange, hst] at hrange ⊢
    obtain ⟨hpos, hmax⟩ := hdr
    cases e.susen <;> simp only [if_true, if_false, Bool.false_eq_true] <;> omega
  · have := releaseCurve_bounds hdlt
    simp only [EnvInRange, hst]
    omega
  · simp [EnvInRange, hstart]
  · have := releaseCurve_bounds hrlt
    simp only [EnvInRange, hst]
    omega
  · exact hrange

theorem envAdvance_normalEnv {e : EnvGen} (h : NormalEnv e) : NormalEnv (envAdvance Config.reference e) := by
  obtain ⟨har, hdr, hrr, -⟩ := envAdvance_frame Config.reference e
  rw [NormalEnv, har, hdr, hrr]
  have ⟨hna, hnd, hnr, hrange⟩ := h
  refine ⟨hna, hnd, hnr, ?_⟩
  rcases envAdvance_cases Config.reference e with ⟨-, hadv⟩ | ⟨-, hadv⟩ <;> rw [hadv]
  · exact envUpdate_envInRange (e := { e with cnt := 0 }) h
  · exact hrange

end Sys2Proof.Machine
end

section
/-! An operator in the ordinary operating range: no operation of OP.SAMPLE wraps, and the operator stays in the range
(R138, R198, R243). -/

namespace Sys2Proof.Machine

open Sys2Proof.Safety

theorem normalOperator_iff (o : Operator) :
    NormalOperator o ↔ NormalPitch o.pg.pitch ∧ NormalTune o.pg.tune ∧ NormalEnv o.eg ∧ |o.fb.toInt| ≤ 65536 := by
  rw [NormalOperator, NormalEnv, abs_le]
  tauto

/-- An ordinary pitch is at most 7 octaves above one cycle per sample, so the increment is below 2^24 (R171). -/
theorem phaseIncrement_bounds {g : PhaseGen} (hp : NormalPitch g.pitch) (ht : NormalTune g.tune) :
    addWraps g.pitch g.tune = false ∧ subWraps (fxAdd g.pitch g.tune) Config.reference.log2Fs = false ∧
      0 ≤ (phaseIncrement Config.reference g).toInt ∧ (phaseIncrement Config.reference g).toInt < 2 ^ 24 := by
  obtain ⟨hplo, hphi⟩ := hp
  obtain ⟨htlo, hthi⟩ := ht
  have hfs : Config.reference.log2Fs.toInt = 0x000F8CFD := rfl
  have hadd : addWraps g.pitch g.tune = false := by
    rw [addWraps_eq_false_iff]
    omega
  have hsum := fxAdd_toInt hadd
  have hsub : subWraps (fxAdd g.pitch g.tune) Config.reference.log2Fs = false := by
    rw [subWraps_eq_false_iff]
    omega
  have harg := fxSub_toInt hsub
  exact ⟨hadd, hsub, exp2_bounds _ (k := 7) (by decide) (by omega)⟩

theorem phaseWraps_eq_false {g : PhaseGen} {m : Fx} (hp : NormalPitch g.pitch) (ht : NormalTune g.tune)
    (hm : |m.toInt| ≤ 4 * 65536) : phaseWraps Config.reference g m = false := by
  obtain ⟨hadd, hsub, hinc⟩ := phaseIncrement_bounds hp ht
  have hbefore := zeroExtend_bounds g.acc
  have hafter := zeroExtend_bounds (phaseAdvance Config.reference g).acc
  rw [abs_le] at hm
  have hacc : addWraps (g.acc.setWidth 32) (phaseIncrement Config.reference g) = false := by
    rw [addWraps_eq_false_iff]
    omega
  have hmod : addWraps ((phaseAdvance Config.reference g).acc.setWidth 32) m = false := by
    rw [addWraps_eq_false_iff]
    omega
  rw [phaseWraps, hadd, hsub, hacc, hmod]
  rfl

section
variable {o : Operator} (h : NormalOperator o)
include h

theorem abs_opLevel_le : |(opLevel Config.reference o).toInt| ≤ 65536 := by
  obtain ⟨-, -, henv, -⟩ := (normalOperator_iff o).1 h
  obtain ⟨-, -, -, -, hlvl⟩ := envAdvance_normalEnv henv
  exact abs_le.2 hlvl

/-- The two products of an operator that is not muted. -/
theorem opProducts_unit :
    mulWraps (opWave Config.reference o) (opLevel Config.reference o) = false ∧
    mulWraps (fxMul (opWave Config.reference o) (opLevel Config.reference o)) (Config.reference.scale8 o.tl) = false ∧
    |(fxMul (fxMul (opWave Config.reference o) (opLevel Config.reference o))
      (Config.reference.scale8 o.tl)).toInt| ≤ 65536 := by
  obtain ⟨hfits, hle⟩ := fxMul_unit (abs_waveform_le Config.reference o.wave _) (abs_opLevel_le h)
  exact ⟨hfits, fxMul_unit hle (abs_scale8_le o.tl)⟩

theorem abs_opOutput_le : |(opOutput Config.reference o).toInt| ≤ 65536 := by
  obtain ⟨-, -, hle⟩ := opProducts_unit h
  rw [opOutput]
  split
  · simp
  · exact hle

/-- The feedback product (R240, step 5). -/
theorem opFeedback_unit :
    mulWraps (opOutput Config.reference o) (Config.reference.scale8 o.fbl) = false ∧
      |(fxMul (opOutput Config.reference o) (Config.reference.scale8 o.fbl)).toInt| ≤ 65536 :=
  fxMul_unit (abs_opOutput_le h) (abs_scale8_le o.fbl)

theorem opWraps_eq_false (hm : |o.modin.toInt| ≤ 3 * 65536) : opWraps Config.reference o = false := by
  obtain ⟨hpitch, htune, henv, hfb⟩ := (normalOperator_iff o).1 h
  obtain ⟨hwave, hscale, -⟩ := opProducts_unit h
  rw [abs_le] at hm hfb
  have hadd : addWraps o.modin o.fb = false := by
    rw [addWraps_eq_false_iff]
    omega
  have hmod : |(opModulation o).toInt| ≤ 4 * 65536 := by
    rw [opModulation, fxAdd_toInt hadd, abs_le]
    omega
  rw [opWraps, hadd, phaseWraps_eq_false hpitch htune hmod, envWraps_eq_false henv, hwave, hscale,
    (opFeedback_unit h).1]
  simp

theorem opSample_normalOperator : NormalOperator (opSample Config.reference o).1 := by
  obtain ⟨hpitch, htune, henv, -⟩ := (normalOperator_iff o).1 h
  rw [normalOperator_iff]
  exact ⟨hpitch, htune, envAdvance_normalEnv henv, (opFeedback_unit h).2⟩

end

end Sys2Proof.Machine
end

section
/-! A TICK in the ordinary operating range (R138, R307): the scratch registers hold one output, or a sum of as many
outputs as operators had their turn. -/

namespace Sys2Proof.Machine

open Sys2Proof.Safety

/-- The state of TICK's loop after `n` turns of a voice in the ordinary range. -/
def NormalAfterTurns (n : Nat) (v : Voice) : Prop :=
  NormalVoice v ∧ |v.out.toInt| ≤ 65536 ∧ |v.adr.toInt| ≤ n * 65536

theorem normalAfterTurns_clearScratch {v : Voice} (h : NormalVoice v) : NormalAfterTurns 0 v.clearScratch :=
  ⟨fun i => by simpa using h i, by simp, by simp⟩

section
variable {n : Nat} {v : Voice} (h : NormalAfterTurns n v) (hn : n ≤ 3)
include h hn

theorem NormalAfterTurns.abs_reg_le (sel : RouteSel) : |(v.reg sel).toInt| ≤ 3 * 65536 := by
  obtain ⟨-, hout, hadr⟩ := h
  cases sel
  · simp
  · exact hout.trans (by decide)
  · exact hadr.trans (by omega)

theorem NormalAfterTurns.modulated (i : OpIdx) :
    NormalOperator (v.modulated Config.reference i) ∧ |(v.modulated Config.reference i).modin.toInt| ≤ 3 * 65536 :=
  ⟨h.1 i, h.abs_reg_le hn _⟩

/-- The accumulating ADD of a sink (R257). -/
theorem NormalAfterTurns.addWraps_adr {y : Fx} (hy : |y.toInt| ≤ 65536) :
    addWraps v.adr y = false ∧ |(fxAdd v.adr y).toInt| ≤ (n + 1 : Nat) * 65536 := by
  obtain ⟨-, -, hadr⟩ := h
  rw [abs_le] at hadr hy
  have hfits : addWraps v.adr y = false := by
    rw [addWraps_eq_false_iff]
    omega
  rw [fxAdd_toInt hfits, abs_le]
  exact ⟨hfits, by omega⟩

theorem NormalAfterTurns.turnWraps_eq_false (i : OpIdx) : turnWraps Config.reference v i = false := by
  obtain ⟨hop, hmod⟩ := h.modulated hn i
  rw [turnWraps, opWraps_eq_false hop hmod, Bool.false_or]
  split
  · rfl
  · rfl
  · exact (h.addWraps_adr hn (abs_opOutput_le hop)).1

theorem NormalAfterTurns.turn (i : OpIdx) : NormalAfterTurns (n + 1) (tickOp Config.reference v i) := by
  obtain ⟨hop, -⟩ := h.modulated hn i
  have hy := abs_opOutput_le hop
  obtain ⟨-, hsum⟩ := h.addWraps_adr hn hy
  obtain ⟨hvoice, hout, hadr⟩ := h
  have hkeep : |v.adr.toInt| ≤ (n + 1 : Nat) * 65536 := hadr.trans (by omega)
  refine ⟨fun j => ?_, ?_, ?_⟩
  · rw [tickOp_op]
    split
    · exact opSample_normalOperator hop
    · exact hvoice j
  · rw [tickOp]
    cases (v.route Config.reference i).snk
    · rw [Voice.sink_none, Voice.setOp_out]
      exact hout
    · exact hy
    · rw [Voice.sink_adder_out, Voice.setOp_out]
      exact hout
  · rw [tickOp]
    cases (v.route Config.reference i).snk
    · rw [Voice.sink_none, Voice.setOp_adr]
      exact hkeep
    · rw [Voice.sink_output_adr, Voice.setOp_adr]
      exact hkeep
    · rw [Voice.sink_adder_adr, Voice.setOp_adr]
      exact hsum

end

theorem tickWraps_eq_false {v : Voice} (h : NormalVoice v) : tickWraps Config.reference v = false := by
  have h0 := normalAfterTurns_clearScratch h
  have h1 := h0.turn (by decide) .o0
  have h2 := h1.turn (by decide) .o1
  have h3 := h2.turn (by decide) .o2
  rw [tickWraps, h0.turnWraps_eq_false (by decide), h1.turnWraps_eq_false (by decide),
    h2.turnWraps_eq_false (by decide), h3.turnWraps_eq_false (by decide)]
  rfl

/-- Settles O59: a TICK under which nothing wraps completes under both policies, with the same voice. -/
theorem normalTickNeverWraps : Obligations.NormalTickNeverWraps := by
  intro s h
  have hwraps := tickWraps_eq_false h
  refine ⟨hwraps, fun p => ?_⟩
  rw [runTick, tick_setOvf]
  exact guardOverflow_of_not_wraps _ _ ((tickWraps_setOvf _ p _).trans hwraps)

end Sys2Proof.Machine
end

section
/-! LERP16 (R150): the floored weighted mean, between its entries, and non-decreasing along the positions of
a non-decreasing table. -/

namespace Sys2Proof.Machine

/-- Sixteen times the weighted mean, before the floor (R150). -/
def lerpSum (e0 e1 : U16) (f : BitVec 4) : Nat := e0.toNat * (16 - f.toNat) + e1.toNat * f.toNat

theorem lerpSum_zero (e0 e1 : U16) : lerpSum e0 e1 0 = e0.toNat * 16 := by simp [lerpSum]

/-- The two weights are not negative and have the sum 16. -/
theorem lerpSum_bounds {e0 e1 : U16} {lo hi : Nat} (h0 : lo ≤ e0.toNat ∧ e0.toNat ≤ hi)
    (h1 : lo ≤ e1.toNat ∧ e1.toNat ≤ hi) (f : BitVec 4) : lo * 16 ≤ lerpSum e0 e1 f ∧ lerpSum e0 e1 f ≤ hi * 16 := by
  have hweights : 16 - f.toNat + f.toNat = 16 := Nat.sub_add_cancel f.isLt.le
  rw [← hweights, Nat.mul_add, Nat.mul_add]
  exact ⟨Nat.add_le_add (Nat.mul_le_mul_right _ h0.1) (Nat.mul_le_mul_right _ h1.1),
    Nat.add_le_add (Nat.mul_le_mul_right _ h0.2) (Nat.mul_le_mul_right _ h1.2)⟩

/-- The mean as a rise from the left entry, on the integers so that the rise may be negative. -/
theorem lerpSum_eq_add_rise (e0 e1 : U16) (f : BitVec 4) :
    (lerpSum e0 e1 f : Int) = 16 * e0.toNat + (e1.toNat - e0.toNat) * f.toNat := by
  have hf : f.toNat ≤ 16 := f.isLt.le
  rw [lerpSum]
  push_cast [hf]
  ring

theorem lerp16_toNat (e0 e1 : U16) (f : BitVec 4) : (lerp16 e0 e1 f).toNat = lerpSum e0 e1 f / 16 := by
  have hsum := lerpSum_bounds (lo := 0) (hi := 65535) (e0 := e0) (e1 := e1) (by omega) (by omega) f
  rw [lerp16_eq, BitVec.toNat_ofNat, Nat.shiftRight_eq_div_pow]
  exact Nat.mod_eq_of_lt (by change lerpSum e0 e1 f / 16 < 65536; omega)

theorem lerp16_zero (e0 e1 : U16) : lerp16 e0 e1 0 = e0 := by
  apply BitVec.eq_of_toNat_eq
  rw [lerp16_toNat, lerpSum_zero, Nat.mul_div_cancel _ (by decide)]

theorem lerp16_between {e0 e1 : U16} {lo hi : Nat} (h0 : lo ≤ e0.toNat ∧ e0.toNat ≤ hi)
    (h1 : lo ≤ e1.toNat ∧ e1.toNat ≤ hi) (f : BitVec 4) :
    lo ≤ (lerp16 e0 e1 f).toNat ∧ (lerp16 e0 e1 f).toNat ≤ hi := by
  have hsum := lerpSum_bounds h0 h1 f
  rw [lerp16_toNat]
  omega

/-- Between two entries in order, a larger fraction moves weight to the larger entry. -/
theorem lerp16_le_of_fraction_le {e0 e1 : U16} (he : e0.toNat ≤ e1.toNat) {f g : BitVec 4} (hfg : f.toNat ≤ g.toNat) :
    (lerp16 e0 e1 f).toNat ≤ (lerp16 e0 e1 g).toNat := by
  have hrise : ((e1.toNat - e0.toNat) * f.toNat : Int) ≤ (e1.toNat - e0.toNat) * g.toNat :=
    Int.mul_le_mul_of_nonneg_left (Int.ofNat_le.2 hfg) (by omega)
  have hsum : lerpSum e0 e1 f ≤ lerpSum e0 e1 g := by
    rw [← Int.ofNat_le, lerpSum_eq_add_rise, lerpSum_eq_add_rise]
    exact Int.add_le_add_left hrise _
  rw [lerp16_toNat, lerp16_toNat]
  exact Nat.div_le_div_right hsum

/-- Below the guard entry a table position has a right neighbour (R152, R155). -/
theorem exists_neighbours {n : Nat} (hn : n < 1024) : ∃ i j : Fin 1025, i.val = n ∧ j.val = i.val + 1 :=
  ⟨⟨n, by omega⟩, ⟨n + 1, by omega⟩, rfl, rfl⟩

/-- Interpolation in a non-decreasing table is non-decreasing in the position, entry number and fraction taken together:
within a segment by the fraction, and from one segment to a later one through the entry between them. -/
theorem lerp16_le_of_position_le {T : Fin 1025 → U16} (hT : Monotone fun i => (T i).toNat) {i j i' j' : Fin 1025}
    (hj : j.val = i.val + 1) (hj' : j'.val = i'.val + 1) {f g : BitVec 4}
    (hpos : 16 * i.val + f.toNat ≤ 16 * i'.val + g.toNat) :
    (lerp16 (T i) (T j) f).toNat ≤ (lerp16 (T i') (T j') g).toNat := by
  have hij : (T i).toNat ≤ (T j).toNat := hT (by omega)
  have hij' : (T i').toNat ≤ (T j').toNat := hT (by omega)
  obtain hseg | hseg : i = i' ∨ j ≤ i' := by omega
  · obtain rfl : i = i' := hseg
    obtain rfl : j = j' := by omega
    exact lerp16_le_of_fraction_le hij (by omega)
  · calc (lerp16 (T i) (T j) f).toNat
      _ ≤ (T j).toNat := (lerp16_between ⟨le_rfl, hij⟩ ⟨hij, le_rfl⟩ f).2
      _ ≤ (T i').toNat := hT hseg
      _ ≤ (lerp16 (T i') (T j') g).toNat := (lerp16_between ⟨le_rfl, hij'⟩ ⟨hij', le_rfl⟩ g).1

/-- Settles O33: a mean whose weights have the sum 16 is between its entries. -/
theorem lerpStaysBetween : Obligations.LerpStaysBetween := by
  intro e0 e1 f
  obtain ⟨hlo, hhi⟩ := lerp16_between (e0 := e0) (e1 := e1) (lo := min e0.toNat e1.toNat)
    (hi := max e0.toNat e1.toNat) (by omega) (by omega) f
  exact ⟨lerp16_toNat e0 e1 f, hlo, hhi, lerp16_zero e0 e1⟩

end Sys2Proof.Machine
end

section
/-! SINQ (R151, R153): one equation in its neighbours, and its order. -/

namespace Sys2Proof.Machine

/-- With fraction 0 the interpolation answers the left entry, so not reading the right one changes nothing (R151). -/
theorem sinq_eq_lerp16 (c : Config) (a : Fin 16385) {i j : Fin 1025} (hi : i.val = a.val / 16)
    (hj : j.val = i.val + 1) :
    sinq c a = lerp16 (c.sinRom i) (c.sinRom j) (BitVec.ofNat 4 (a.val % 16)) := by
  obtain ⟨i, _⟩ := i
  obtain ⟨j, _⟩ := j
  obtain rfl : i = a.val / 16 := hi
  obtain rfl : j = a.val / 16 + 1 := hj
  by_cases hf : a.val % 16 = 0
  · rw [sinq_of_mod_eq_zero c a hf, hf]
    exact (lerp16_zero _ _).symm
  · exact dif_neg hf

theorem sinq_last (c : Config) : sinq c 16384 = c.sinRom 1024 := sinq_of_mod_eq_zero c 16384 rfl

/-- SINQ is non-decreasing for a non-decreasing table: the guard entry, its value at the end of the domain, is the
largest entry, and elsewhere it interpolates. -/
theorem sinq_monotone {c : Config} (hc : Monotone fun i => (c.sinRom i).toNat) :
    Monotone fun a => (sinq c a).toNat := by
  intro a b hab
  change (sinq c a).toNat ≤ (sinq c b).toNat
  by_cases ha : a = 16384
  · obtain rfl : a = b := by omega
    exact le_rfl
  obtain ⟨i, j, hi, hj⟩ := exists_neighbours (n := a.val / 16) (by omega)
  rw [sinq_eq_lerp16 c a hi hj]
  by_cases hb : b = 16384
  · rw [hb, sinq_last]
    exact (lerp16_between (lo := 0) ⟨Nat.zero_le _, hc (Fin.le_last i)⟩ ⟨Nat.zero_le _, hc (Fin.le_last j)⟩ _).2
  · obtain ⟨i', j', hi', hj'⟩ := exists_neighbours (n := b.val / 16) (by omega)
    rw [sinq_eq_lerp16 c b hi' hj']
    apply lerp16_le_of_position_le hc hj hj'
    rw [BitVec.toNat_ofNat, BitVec.toNat_ofNat]
    omega

/-- Settles O34: SINQ is non-decreasing for every non-decreasing table, and the reference table is one. -/
theorem sinqNonDecreasing : Obligations.SinqNonDecreasing :=
  ⟨fun c a _ _ hi hj => sinq_eq_lerp16 c a hi hj, sinq_last, fun _ _ h => sinq_monotone sinRom_monotone h⟩

end Sys2Proof.Machine
end

section
/-! EXP2 (R154, R156): the mantissa as an interpolation, and the shift stage by the integer part of the argument. -/

namespace Sys2Proof.Machine

theorem s32_toInt_of_nat_fits {r : Nat} (h : r < 2 ^ 31) : (s32 r).toInt = r :=
  s32_toInt_of_fits (by omega) (by omega)

theorem exp2Frac_eq_setWidth (x : Fx) : exp2Frac x = x.setWidth 16 := by
  apply BitVec.eq_of_toNat_eq
  rw [exp2Frac_toNat, BitVec.toNat_setWidth]

/-- The mantissa is 1.0 and the interpolation at `F[15:6]` with fraction `F[5:2]` (R154). -/
theorem exp2Mantissa_eq_lerp16 (c : Config) (frac : U16) {i j : Fin 1025} (hi : i.val = frac.toNat / 64)
    (hj : j.val = i.val + 1) :
    exp2Mantissa c frac =
      65536 + (lerp16 (c.expRom i) (c.expRom j) (BitVec.ofNat 4 (frac.toNat / 4 % 16))).toNat := by
  have hindex : (frac.extractLsb' 6 10).toNat = frac.toNat / 64 := by
    rw [BitVec.extractLsb'_toNat, Nat.shiftRight_eq_div_pow]
    omega
  have hfraction : frac.extractLsb' 2 4 = BitVec.ofNat 4 (frac.toNat / 4 % 16) := by
    apply BitVec.eq_of_toNat_eq
    rw [BitVec.extractLsb'_toNat, Nat.shiftRight_eq_div_pow, BitVec.toNat_ofNat]
    omega
  obtain ⟨i, _⟩ := i
  obtain ⟨j, _⟩ := j
  obtain rfl : i = (frac.extractLsb' 6 10).toNat := hi.trans hindex.symm
  obtain rfl : j = (frac.extractLsb' 6 10).toNat + 1 := hj
  rw [exp2Mantissa, hfraction]
  rfl

theorem exp2Mantissa_ge (c : Config) (frac : U16) : 65536 ≤ exp2Mantissa c frac := Nat.le_add_right _ _

section
variable (c : Config) {x : Fx}

/-- EXP2 through the quotient of the raw argument by 1.0. -/
theorem exp2_eq_exp2Scale (x : Fx) : exp2 c x = exp2Scale (x.toInt / 65536) (exp2Mantissa c (exp2Frac x)) := by
  have hn : exp2Int x = x.toInt / 65536 := asr_eq_div x.toInt 16
  rw [exp2, hn]

theorem exp2_of_integer_part_nonneg (lo : 0 ≤ x.toInt / 65536) (hi : x.toInt / 65536 ≤ 31) :
    exp2 c x = s32 (exp2Mantissa c (exp2Frac x) * 2 ^ (x.toInt / 65536).toNat : Nat) := by
  rw [exp2_eq_exp2Scale, exp2Scale_eq, if_pos lo, if_neg (by omega), Nat.shiftLeft_eq]

theorem exp2_of_integer_part_neg (lo : -16 ≤ x.toInt / 65536) (hi : x.toInt / 65536 ≤ -1) :
    exp2 c x = s32 (exp2Mantissa c (exp2Frac x) / 2 ^ (-(x.toInt / 65536)).toNat : Nat) := by
  rw [exp2_eq_exp2Scale, exp2Scale_eq, if_neg (by omega), if_neg (by omega), Nat.shiftRight_eq_div_pow]

theorem exp2_eq_zero_of_overflow (h : 32 ≤ x.toInt / 65536) : exp2 c x = 0 := by
  rw [exp2_eq_exp2Scale, exp2Scale_eq, if_pos (by omega), if_pos h]

theorem exp2_eq_zero_of_underflow (h : x.toInt / 65536 ≤ -17) : exp2 c x = 0 := by
  rw [exp2_eq_exp2Scale, exp2Scale_eq, if_neg (by omega), if_pos (by omega)]

/-- Up to integer part 14 the shifted mantissa fits, so it is exact (R156). -/
theorem exp2_toInt_of_nonneg (lo : 0 ≤ x.toInt / 65536) (hi : x.toInt / 65536 ≤ 14) :
    (exp2 c x).toInt = (exp2Mantissa c (exp2Frac x) * 2 ^ (x.toInt / 65536).toNat : Nat) := by
  have hfits : exp2Mantissa c (exp2Frac x) * 2 ^ (x.toInt / 65536).toNat < 2 ^ 17 * 2 ^ 14 :=
    Nat.mul_lt_mul_of_lt_of_le (exp2Mantissa_lt c _) (Nat.pow_le_pow_right (by decide) (by omega)) (by decide)
  rw [exp2_of_integer_part_nonneg c lo (by omega), s32_toInt_of_nat_fits hfits]

/-- A negative integer part halves the mantissa that often, with the floor (R156). -/
theorem exp2_toInt_of_neg (lo : -16 ≤ x.toInt / 65536) (hi : x.toInt / 65536 ≤ -1) :
    (exp2 c x).toInt = (exp2Mantissa c (exp2Frac x) / 2 ^ (-(x.toInt / 65536)).toNat : Nat) := by
  have hfits : exp2Mantissa c (exp2Frac x) / 2 ^ (-(x.toInt / 65536)).toNat < 2 ^ 17 :=
    (Nat.div_le_self _ _).trans_lt (exp2Mantissa_lt c _)
  rw [exp2_of_integer_part_neg c lo hi, s32_toInt_of_nat_fits (hfits.trans (by decide))]

/-- From integer part 15 on only the low 32 bits are kept (R156). -/
theorem exp2_toNat_of_nonneg (lo : 0 ≤ x.toInt / 65536) (hi : x.toInt / 65536 ≤ 31) :
    (exp2 c x).toNat = exp2Mantissa c (exp2Frac x) * 2 ^ (x.toInt / 65536).toNat % 2 ^ 32 := by
  rw [exp2_of_integer_part_nonneg c lo hi, s32, BitVec.toNat_ofInt]
  norm_cast

/-- At integer part 15 the shifted mantissa has its top bit set and reads as negative (R156). -/
theorem exp2_toInt_of_fifteen (h : x.toInt / 65536 = 15) :
    (exp2 c x).toInt = exp2Mantissa c (exp2Frac x) * 2 ^ 15 - 2 ^ 32 ∧ (exp2 c x).toInt < 0 := by
  have hlo := exp2Mantissa_ge c (exp2Frac x)
  have hhi := exp2Mantissa_lt c (exp2Frac x)
  have hbits := exp2_toNat_of_nonneg c (x := x) (by omega) (by omega)
  have hn : (x.toInt / 65536).toNat = 15 := by omega
  rw [hn] at hbits
  rw [BitVec.toInt_eq_toNat_cond, hbits]
  omega

end

/-- Settles O35, clause by clause. -/
theorem exp2ShiftStage : Obligations.Exp2ShiftStage := by
  intro c x
  have hF : (exp2Frac x).toNat = x.toNat % 65536 := exp2Frac_toNat x
  rw [← exp2Frac_eq_setWidth]
  refine ⟨fun lo hi => ?_, exp2_toInt_of_fifteen c, fun lo hi => exp2_toNat_of_nonneg c (by omega) hi,
    exp2_eq_zero_of_overflow c, exp2_eq_zero_of_underflow c, fun lo hi => ?_, fun i j hi hj => ?_,
    exp2Mantissa_ge c _, Nat.le_of_lt_succ (exp2Mantissa_lt c _)⟩
  · exact_mod_cast exp2_toInt_of_nonneg c lo hi
  · exact_mod_cast exp2_toInt_of_neg c lo hi
  · have hdigit : x.toNat / 4 % 16 = (exp2Frac x).toNat / 4 % 16 := by omega
    rw [hdigit]
    exact exp2Mantissa_eq_lerp16 c _ (by omega) hj

end Sys2Proof.Machine
end

section
/-! EXP2 with the reference table (R157). Over the useful domain the shift, left or right, is one floored quotient, and
the octaves follow each other because every mantissa is in [1.0, 2.0). -/

namespace Sys2Proof.Machine

/-- Over -16.0 <= real(x) < 15.0 the value is floor(m * 2^(n + 16) / 2^16), on both sides of 1.0 (R154). -/
theorem exp2_toInt_eq_floor (c : Config) {x : Fx} (lo : -16 ≤ x.toInt / 65536) (hi : x.toInt / 65536 ≤ 14) :
    (exp2 c x).toInt = (exp2Mantissa c (exp2Frac x) * 2 ^ (x.toInt / 65536 + 16).toNat / 65536 : Nat) := by
  by_cases hpos : 0 ≤ x.toInt / 65536
  · have hexp : (x.toInt / 65536 + 16).toNat = (x.toInt / 65536).toNat + 16 := by omega
    rw [exp2_toInt_of_nonneg c hpos hi, hexp, Nat.pow_add, ← Nat.mul_assoc, Nat.mul_div_cancel _ (by decide)]
  · have hexp : 16 = (-(x.toInt / 65536)).toNat + (x.toInt / 65536 + 16).toNat := by omega
    have hpow : 65536 = 2 ^ (-(x.toInt / 65536)).toNat * 2 ^ (x.toInt / 65536 + 16).toNat := by
      rw [← Nat.pow_add, ← hexp]
    rw [exp2_toInt_of_neg c lo (by omega), hpow, Nat.mul_div_mul_right _ _ (by positivity)]

theorem exp2Mantissa_monotone {c : Config} (hc : Monotone fun i => (c.expRom i).toNat) {F G : U16}
    (hFG : F.toNat ≤ G.toNat) : exp2Mantissa c F ≤ exp2Mantissa c G := by
  obtain ⟨i, j, hi, hj⟩ := exists_neighbours (n := F.toNat / 64) (by omega)
  obtain ⟨i', j', hi', hj'⟩ := exists_neighbours (n := G.toNat / 64) (by omega)
  rw [exp2Mantissa_eq_lerp16 c F hi hj, exp2Mantissa_eq_lerp16 c G hi' hj']
  apply Nat.add_le_add_left
  apply lerp16_le_of_position_le hc hj hj'
  rw [BitVec.toNat_ofNat, BitVec.toNat_ofNat]
  omega

theorem exp2Frac_toNat_eq_toInt_mod (x : Fx) : ((exp2Frac x).toNat : Int) = x.toInt % 65536 := by
  rw [exp2Frac_toNat, BitVec.toInt_eq_toNat_bmod, Int.bmod_def]
  omega

/-- Within an octave by the mantissa; a later octave starts at twice 1.0, above every mantissa of this one. -/
theorem exp2_le_exp2 {c : Config} (hc : Monotone fun i => (c.expRom i).toNat) {x y : Fx}
    (lo : -16 ≤ x.toInt / 65536) (hxy : x.toInt ≤ y.toInt) (hi : y.toInt / 65536 ≤ 14) :
    (exp2 c x).toInt ≤ (exp2 c y).toInt := by
  rw [exp2_toInt_eq_floor c lo (by omega), exp2_toInt_eq_floor c (by omega) hi]
  apply Int.ofNat_le.2
  apply Nat.div_le_div_right
  obtain hoct | hoct : x.toInt / 65536 = y.toInt / 65536 ∨ x.toInt / 65536 + 1 ≤ y.toInt / 65536 := by omega
  · have hx := exp2Frac_toNat_eq_toInt_mod x
    have hy := exp2Frac_toNat_eq_toInt_mod y
    rw [hoct]
    exact Nat.mul_le_mul_right _ (exp2Mantissa_monotone hc (by omega))
  · calc exp2Mantissa c (exp2Frac x) * 2 ^ (x.toInt / 65536 + 16).toNat
      _ ≤ 2 ^ 17 * 2 ^ (x.toInt / 65536 + 16).toNat := Nat.mul_le_mul_right _ (exp2Mantissa_lt c _).le
      _ = 65536 * 2 ^ ((x.toInt / 65536 + 16).toNat + 1) := by ring
      _ ≤ exp2Mantissa c (exp2Frac y) * 2 ^ (y.toInt / 65536 + 16).toNat :=
        Nat.mul_le_mul (exp2Mantissa_ge c _) (Nat.pow_le_pow_right (by decide) (by omega))

/-- Settles O37: EXP2 is non-decreasing there for every non-decreasing table, and the reference table is one. -/
theorem exp2NonDecreasing : Obligations.Exp2NonDecreasing := fun _ _ lo hxy hi =>
  exp2_le_exp2 expRom_strictMono.monotone (by omega) hxy (by omega)

/-- Where a table starts at 0, the mantissa of a whole octave is 1.0. -/
theorem exp2Mantissa_zero {c : Config} (hc : c.expRom 0 = 0) : exp2Mantissa c 0 = 65536 := by
  rw [exp2Mantissa_eq_lerp16 c 0 (i := 0) (j := 1) rfl rfl, hc]
  exact congrArg (65536 + BitVec.toNat ·) (lerp16_zero 0 _)

theorem toNat_eq_of_toInt_eq_natCast {v : Fx} {r : Nat} (h : v.toInt = r) : v.toNat = r := by
  rw [BitVec.toInt_eq_toNat_cond] at h
  omega

/-- At a whole octave the mantissa is 1.0, so the floored quotient is exact: the real value is 2^(n - 16). -/
theorem exp2_of_whole_octave {c : Config} (hc : c.expRom 0 = 0) {x : Fx} {n : Nat} (hn : n ≤ 30)
    (hx : x.toInt = (n - 16) * 65536) : (exp2 c x).toNat = 2 ^ n := by
  have hoct : x.toInt / 65536 = n - 16 := by omega
  have hfrac : exp2Frac x = 0 := by
    apply BitVec.eq_of_toNat_eq
    rw [← Int.ofNat_inj, exp2Frac_toNat_eq_toInt_mod, hx]
    exact Int.mul_emod_left _ _
  have hval := exp2_toInt_eq_floor c (x := x) (by omega) (by omega)
  rw [hfrac, exp2Mantissa_zero hc, hoct, Int.sub_add_cancel, Int.toNat_natCast,
    Nat.mul_div_cancel_left _ (by decide)] at hval
  exact toNat_eq_of_toInt_eq_natCast hval

/-- Settles O36: the reference table starts at 0, and every whole octave of the domain is an `fx`. -/
theorem exp2ExactPowers : Obligations.Exp2ExactPowers := by
  intro k
  rw [exp2_of_whole_octave (n := k.val) rfl (by omega) (s32_toInt_of_fits (by omega) (by omega))]
  exact Nat.mul_comm _ _

end Sys2Proof.Machine
end

section
/-! The phase accumulator (R171, R174, R177): PG.UPDATE as addition modulo one cycle, and its period under TICKs. -/

namespace Sys2Proof.Machine

theorem fxFrac_toNat (a : Fx) : (fxFrac a).toNat = a.toNat % 65536 := Nat.and_two_pow_sub_one_eq_mod a.toNat 16

theorem phaseAdd_toNat (p : U16) (d : Fx) : (phaseAdd p d).toNat = (p.toNat + d.toNat) % 65536 := by
  rw [phaseAdd, BitVec.toNat_setWidth, fxFrac_toNat, fxAdd_eq, BitVec.toNat_add, BitVec.toNat_setWidth]
  omega

theorem phaseAdvance_acc_toNat (c : Config) (g : PhaseGen) :
    (phaseAdvance c g).acc.toNat = (g.acc.toNat + (phaseIncrement c g).toNat) % 65536 := phaseAdd_toNat _ _

theorem phaseIncrement_eq (c : Config) (g : PhaseGen) : phaseIncrement c g = exp2 c (g.pitch + g.tune - c.log2Fs) := by
  rw [phaseIncrement, fxAdd_eq, fxSub_eq]

/-- The increment reads `PITCH` and `TUNE` only, so advancing does not change it (R171). -/
theorem phaseIncrement_phaseAdvance (c : Config) (g : PhaseGen) :
    phaseIncrement c (phaseAdvance c g) = phaseIncrement c g := rfl

/-- Settles O38: both sums of PG.UPDATE are taken modulo one cycle. -/
theorem phaseUpdateLaw : Obligations.PhaseUpdateLaw := by
  intro c g m
  rw [← phaseIncrement_eq]
  exact ⟨phaseAdvance_acc_toNat c g, phaseAdd_toNat _ m, rfl, rfl⟩

theorem phaseAdvance_iterate_acc_toNat (c : Config) (g : PhaseGen) (k : Nat) :
    ((phaseAdvance c)^[k] g).acc.toNat = (g.acc.toNat + k * (phaseIncrement c g).toNat) % 65536 := by
  induction k generalizing g with
  | zero =>
    rw [Nat.zero_mul, Nat.add_zero, Nat.mod_eq_of_lt g.acc.isLt]
    rfl
  | succ k ih =>
    rw [Function.iterate_succ_apply, ih, phaseIncrement_phaseAdvance, phaseAdvance_acc_toNat, Nat.mod_add_mod,
      Nat.succ_mul]
    congr 1
    omega

/-- A TICK advances every phase generator once, at whatever modulation (R171, R255). -/
theorem tick_op_pg (c : Config) (v : Voice) (i : OpIdx) : ((tick c v).op i).pg = phaseAdvance c (v.op i).pg := by
  obtain ⟨m, h⟩ := tick_op c v i
  rw [h]
  rfl

theorem tick_iterate_op_pg (c : Config) (v : Voice) (i : OpIdx) (k : Nat) :
    (((tick c)^[k] v).op i).pg = (phaseAdvance c)^[k] (v.op i).pg :=
  Function.Semiconj.iterate_right (f := fun v : Voice => (v.op i).pg) (fun v => tick_op_pg c v i) k v

/-- The multiples of `a` that are 0 modulo `n` are those of the order of `a` in ℤ/n. -/
theorem dvd_mul_iff_div_gcd_dvd {n : Nat} (hn : n ≠ 0) (a k : Nat) : n ∣ k * a ↔ n / Nat.gcd a n ∣ k := by
  rw [Nat.gcd_comm, ← ZMod.addOrderOf_coe a hn, addOrderOf_dvd_iff_nsmul_eq_zero, nsmul_eq_mul, ← Nat.cast_mul,
    ZMod.natCast_eq_zero_iff]

/-- Settles O39: TICKs iterate `phaseAdvance`, which adds k * inc, and ACC is back where that is 0 modulo 65536. -/
theorem accumulatorIsPeriodic : Obligations.AccumulatorIsPeriodic := by
  intro c v i k
  have hacc := phaseAdvance_iterate_acc_toNat c (v.op i).pg k
  rw [tick_iterate_op_pg, ← dvd_mul_iff_div_gcd_dvd (by decide), ← BitVec.toNat_inj, hacc]
  exact ⟨rfl, by omega⟩

end Sys2Proof.Machine
end

section
/-! The words that open and close the envelopes (R263, R264): NOTE_ON has one word per pitch, NOTE_OFF one per value of
its ignored data. -/

namespace Sys2Proof

theorem eq_of_decode_noteOn {w : PortWord} {pitch : Fx} (h : decode w = .ok (.noteOn pitch)) :
    w = .host (hostWord 0x02 pitch) := by
  obtain he | ⟨data, ⟨hi, -⟩ | ⟨hi, -⟩ | ⟨hi, -⟩⟩ | ⟨a, b, ⟨hi, -⟩ | ⟨hi, -⟩⟩ := decode_ok_cases h
  · exact he.symm
  all_goals cases hi

theorem eq_of_decode_noteOff {w : PortWord} (h : decode w = .ok .noteOff) :
    ∃ data, w = .host (hostWord 0x03 data) := by
  obtain he | ⟨data, ⟨hi, -⟩ | ⟨hi, -⟩ | ⟨-, hw⟩⟩ | ⟨a, b, ⟨hi, -⟩ | ⟨hi, -⟩⟩ := decode_ok_cases h
  · exact ⟨0, he.symm⟩
  · cases hi
  · cases hi
  · exact ⟨data, hw⟩
  all_goals cases hi

end Sys2Proof
end

section
/-! How the state of an envelope can change (R195, R196): along the arrows of R196's table, which EG.SAMPLE takes, or by
NOTE_ON or NOTE_OFF. -/

namespace Sys2Proof.Machine

open Sys2Proof.Safety

/-- The arrows of R196's table that an update takes, and staying where it is. -/
def EnvArrow (e e' : EnvGen) : Prop :=
  e'.st = e.st ∨ (e.st = .attack ∧ e'.st = .decay) ∨ (e.st = .decay ∧ e'.st = if e.susen then .sustain else .release) ∨
    (e.st = .release ∧ e'.st = .idle)

theorem envUpdate_arrow (c : Config) (e : EnvGen) : EnvArrow e (envUpdate c e) := by
  rcases envUpdate_cases c e with
    ⟨hst, hu⟩ | ⟨hst, hu, -⟩ | ⟨hst, hu⟩ | ⟨hst, hu, -⟩ | ⟨hst, hu⟩ | ⟨hst, hu, -⟩ | ⟨-, hu⟩ <;> rw [hu]
  · exact .inr (.inl ⟨hst, rfl⟩)
  · exact .inl rfl
  · exact .inr (.inr (.inl ⟨hst, rfl⟩))
  · exact .inl rfl
  · exact .inr (.inr (.inr ⟨hst, rfl⟩))
  · exact .inl rfl
  · exact .inl rfl

theorem envAdvance_arrow (c : Config) (e : EnvGen) : EnvArrow e (envAdvance c e) := by
  obtain ⟨-, h⟩ | ⟨-, h⟩ := envAdvance_cases c e <;> rw [h]
  · exact envUpdate_arrow c { e with cnt := 0 }
  · exact .inl rfl

/-- Without `rst` the state of an envelope changes along an arrow, or into Attack by NOTE_ON, or into Release by
NOTE_OFF. -/
theorem step_env_cases {s t : State} (hn : NoReset s) (h : step s = .next t) (i : OpIdx) :
    EnvArrow (s.voice.op i).eg (t.voice.op i).eg ∨
    ((t.voice.op i).eg.st = .attack ∧ ∃ pitch rest, s.inputs = .present (.host (hostWord 0x02 pitch)) :: rest) ∨
    ((t.voice.op i).eg.st = .release ∧ ∃ data rest, s.inputs = .present (.host (hostWord 0x03 data)) :: rest) := by
  obtain ⟨-, rfl⟩ | ⟨rest, hin, -⟩ | ⟨w, rest, ins, hin, hd, hex⟩ | ⟨w, rest, r, -, -, -, rfl⟩ := step_cases h
  · exact .inl (.inl rfl)
  · exact absurd (by rw [hin]; rfl) hn
  · obtain ⟨-, he⟩ | ⟨pitch, rfl, he⟩ | ⟨rfl, he⟩ | ⟨hst, -⟩ := exec_eg_cases hex i
    · exact .inl (he ▸ envAdvance_arrow _ _)
    · obtain rfl := eq_of_decode_noteOn hd
      exact .inr (.inl ⟨by rw [he]; rfl, pitch, rest, hin⟩)
    · obtain ⟨data, rfl⟩ := eq_of_decode_noteOff hd
      exact .inr (.inr ⟨by rw [he, envClose_eq], data, rest, hin⟩)
    · exact .inl (.inl hst)
  · exact .inl (.inl (by simp))

/-- Settles O46: which arrow or command of `step_env_cases` ends in the state that was entered. -/
theorem envelopeEntries : Obligations.EnvelopeEntries := by
  intro s t i hn h
  obtain (hst | ⟨hs, ht⟩ | ⟨hs, ht⟩ | ⟨hs, ht⟩) | ⟨ht, hon⟩ | ⟨ht, hoff⟩ := step_env_cases hn h i
  · simp +contextual [hst]
  · simp [hs, ht]
  · cases hsus : (s.voice.op i).eg.susen <;> simp [hs, ht, hsus]
  · simp [hs, ht]
  · simpa [ht] using .inr hon
  · simpa [ht] using .inr (.inr hoff)

end Sys2Proof.Machine
end

section
/-! SEARCH (R189): the interval after the halvings. Each halving keeps the half whose ends bracket the level, so the last
interval is 256 wide, aligned, and each of its ends is an end of the first one or was compared with the level. -/

namespace Sys2Proof.Machine

/-- The middle of an interval of even width. -/
theorem fxHalf_fxAdd_toNat {lo hi : Fx} {half : Nat} (hwidth : lo.toNat + 2 * half = hi.toNat)
    (hhi : hi.toNat ≤ 65536) : (fxHalf (fxAdd lo hi)).toNat = lo.toNat + half := by
  have hsum : (lo + hi).toNat = lo.toNat + hi.toNat := by
    rw [BitVec.toNat_add]
    omega
  have hshift : (fxHalf (lo + hi)).toInt = (lo + hi).toInt / 2 := fxShr_toInt _ 1
  rw [fxAdd_eq]
  rw [BitVec.toInt_eq_toNat_cond, BitVec.toInt_eq_toNat_cond] at hshift
  omega

/-- `[lo, hi]` is an interval that SEARCH can end with when it starts from `[lo₀, hi₀]`: 256 wide, inside and aligned
with the first one, and an end that moved is on its side of the level. -/
structure Brackets (c : Config) (lvl lo₀ hi₀ lo hi : Fx) : Prop where
  width : lo.toNat + 256 = hi.toNat
  aligned : lo.toNat % 256 = lo₀.toNat % 256
  lo_le : lo₀.toNat ≤ lo.toNat
  le_hi : hi.toNat ≤ hi₀.toNat
  lo_moved : lo = lo₀ ∨ (releaseCurve c lo).toInt ≤ lvl.toInt
  hi_moved : hi = hi₀ ∨ lvl.toInt < (releaseCurve c hi).toInt

/-- By induction on the halvings. -/
theorem searchSteps_brackets (c : Config) (lvl : Fx) {k : Nat} {lo₀ hi₀ : Fx}
    (hwidth : lo₀.toNat + 2 ^ k * 256 = hi₀.toNat) (hhi : hi₀.toNat ≤ 65536) :
    ∃ lo hi, Brackets c lvl lo₀ hi₀ lo hi ∧ (searchSteps c lvl k lo₀ hi₀).toNat = lo.toNat + 128 := by
  induction k generalizing lo₀ hi₀ with
  | zero =>
    exact ⟨lo₀, hi₀, ⟨by omega, rfl, le_rfl, le_rfl, .inl rfl, .inl rfl⟩, fxHalf_fxAdd_toNat (by omega) hhi⟩
  | succ k ih =>
    have hmid := fxHalf_fxAdd_toNat (lo := lo₀) (hi := hi₀) (half := 2 ^ k * 256) (by omega) hhi
    rw [searchSteps]
    split
    · next hlt =>
      obtain ⟨lo, hi, hb, hres⟩ := ih hmid.symm (by omega)
      refine ⟨lo, hi, { hb with le_hi := hb.le_hi.trans (by omega), hi_moved := .inr ?_ }, hres⟩
      obtain rfl | h := hb.hi_moved
      · exact (fxLt_iff _ _).1 hlt
      · exact h
    · next hge =>
      obtain ⟨lo, hi, hb, hres⟩ := ih (lo₀ := fxHalf (fxAdd lo₀ hi₀)) (by omega) hhi
      have haligned := hb.aligned
      refine ⟨lo, hi, { hb with
        aligned := by omega, lo_le := Nat.le_trans (by omega) hb.lo_le, lo_moved := .inr ?_ }, hres⟩
      obtain rfl | h := hb.lo_moved
      · rw [fxLt_iff] at hge
        omega
      · exact h

/-- The eight halvings of [0, 1.0] (R185, R189). -/
theorem search_brackets {c : Config} (hfloor : c.envFloor = 0) (hstart : c.envStart = 0x00010000) (lvl : Fx) :
    ∃ lo hi, Brackets c lvl 0 0x00010000 lo hi ∧ (search c lvl).toNat = lo.toNat + 128 := by
  rw [search, hfloor, hstart]
  exact searchSteps_brackets c lvl (by decide) (by decide)

/-- Settles O42: the result is the middle of an aligned interval inside [0, 1.0]. -/
theorem searchResultForm : Obligations.SearchResultForm := by
  intro c lvl hfloor hstart
  obtain ⟨lo, hi, hb, hres⟩ := search_brackets hfloor hstart lvl
  obtain ⟨hwidth, haligned, -, hle, -, -⟩ := hb
  have hzero : (0 : Fx).toNat = 0 := rfl
  have hone : (0x00010000 : Fx).toNat = 65536 := rfl
  omega

end Sys2Proof.Machine
end

section
/-! The level at the found index (R189), with the reference table: the release curve is in [0, 1.0] over [0, 1.0], and
rises by at most 177 over half of a last interval. -/

namespace Sys2Proof.Machine

section
variable {idx : Fx} (h : idx.toNat ≤ 65536)
include h

/-- Below 1.0 the exponential is a mantissa, in [1.0, 2.0); at 1.0 it is 2.0. -/
theorem releaseCurve_bounds_of_le_one :
    0 ≤ (releaseCurve Config.reference idx).toInt ∧ (releaseCurve Config.reference idx).toInt ≤ 65536 := by
  obtain hlt | heq := Nat.lt_or_eq_of_le h
  · have hint : idx.toInt = idx.toNat := by
      rw [BitVec.toInt_eq_toNat_cond]
      omega
    have hoct : idx.toInt / 65536 = 0 := by omega
    have hlower : Config.reference.envLower.toInt = 65536 := rfl
    have hexp := exp2_toInt_of_nonneg Config.reference (x := idx) (by omega) (by omega)
    have hlo := exp2Mantissa_ge Config.reference (exp2Frac idx)
    obtain ⟨hfits, -, hle⟩ := releaseCurve_bounds (idx := idx) (by omega)
    refine ⟨?_, hle⟩
    rw [hoct, Int.toNat_zero, Nat.pow_zero, Nat.mul_one] at hexp
    rw [releaseCurve, fxSub_toInt hfits]
    omega
  · obtain rfl : idx = 0x00010000 := BitVec.eq_of_toNat_eq heq
    decide

end

/-- The rise over one half of a last interval, read from the table 512 times. -/
theorem releaseCurve_rise (n : Fin 512) :
    (releaseCurve Config.reference (BitVec.ofNat 32 (128 * (n.val + 1)))).toInt -
      (releaseCurve Config.reference (BitVec.ofNat 32 (128 * n.val))).toInt ≤ 177 := by
  revert n
  decide +kernel

theorem releaseCurve_rise_le {idx idx' : Fx} (haligned : idx.toNat % 128 = 0) (hnext : idx'.toNat = idx.toNat + 128)
    (hle : idx'.toNat ≤ 65536) :
    (releaseCurve Config.reference idx').toInt - (releaseCurve Config.reference idx).toInt ≤ 177 := by
  have h := releaseCurve_rise ⟨idx.toNat / 128, by omega⟩
  have hidx : 128 * (idx.toNat / 128) = idx.toNat := by omega
  have hidx' : 128 * (idx.toNat / 128 + 1) = idx'.toNat := by omega
  simpa only [hidx, hidx', BitVec.ofNat_toNat, BitVec.setWidth_eq] using h

/-- Settles O43. The ends of the last interval bracket a level inside [0, 1.0], and the middle is at most 177 from the
level at either end; for a level outside, the curve is on one side of it at every index, so one end never moves. -/
theorem searchWithinEpsilon : Obligations.SearchWithinEpsilon := by
  intro lvl
  obtain ⟨lo, hi, ⟨hwidth, haligned, -, hle, hlo, hhi⟩, hres⟩ :=
    search_brackets (c := Config.reference) rfl rfl lvl
  have hzero : (0 : Fx).toNat = 0 := rfl
  have hone : (0x00010000 : Fx).toNat = 65536 := rfl
  rw [hone] at hle
  rw [hzero] at haligned
  obtain ⟨hlo0, hlo1⟩ := releaseCurve_bounds_of_le_one (idx := lo) (by omega)
  obtain ⟨hhi0, hhi1⟩ := releaseCurve_bounds_of_le_one hle
  refine ⟨fun h0 h1 => ?_, fun h => ?_, fun h => ?_⟩
  · have hbelow : (releaseCurve Config.reference lo).toInt ≤ lvl.toInt := by
      obtain rfl | h := hlo
      · exact h0
      · exact h
    have habove : lvl.toInt ≤ (releaseCurve Config.reference hi).toInt := by
      obtain rfl | h := hhi
      · exact h1
      · exact h.le
    have hrise := releaseCurve_rise_le (idx := lo) (by omega) hres (by omega)
    have hrise' := releaseCurve_rise_le (idx := search Config.reference lvl) (idx' := hi) (by omega) (by omega) hle
    have hcurve : exp2 Config.reference (search Config.reference lvl) - 0x00010000 =
      releaseCurve Config.reference (search Config.reference lvl) := (fxSub_eq _ _).symm
    rw [hcurve, abs_le]
    omega
  · obtain rfl : lo = 0 := hlo.resolve_right (by omega)
    exact BitVec.eq_of_toNat_eq hres
  · obtain rfl : hi = 0x00010000 := hhi.resolve_right (by omega)
    apply BitVec.eq_of_toNat_eq
    change _ = 65408
    omega

end Sys2Proof.Machine
end

section
/-! EG.UPDATE, one equation per state (R192 to R195). -/

namespace Sys2Proof.Machine

/-- Settles O40: the tests of the ends of the phases, `fxGe`, `fxLe` and the `or` of them, in terms of the integers. -/
theorem envelopeUpdateCases : Obligations.EnvelopeUpdateCases := by
  intro c e
  have hone : fxOne.toInt = 65536 := rfl
  have hzero : (0 : Fx).toInt = 0 := rfl
  refine ⟨fun h => ?_, fun h => ?_, fun h => ?_, fun h => ?_, fun h => ?_⟩
  · simp only [envUpdate, h, attackUpdate, attackCurve, fxSub_eq, Bool.or_eq_true, fxGe_iff, fxLe_iff, hone]
    rfl
  · simp only [envUpdate, h, decayUpdate, releaseCurve, fxSub_eq, Bool.or_eq_true, fxLe_iff]
  · simp only [envUpdate, h, releaseUpdate, releaseCurve, fxSub_eq, Bool.or_eq_true, fxLe_iff, hzero]
  · simp only [envUpdate, h]
  · simp only [envUpdate, h]

end Sys2Proof.Machine
end

section
/-! The clock divider (R190, R343): from a counter the hardware can hold, some calls of EG.SAMPLE only count, and the next
one updates. -/

namespace Sys2Proof.Machine

variable (c : Config) {e : EnvGen}

theorem cnt_add_one_toNat {cnt : U16} (h : cnt.toNat ≤ 65534) : (cnt + 1).toNat = cnt.toNat + 1 := by
  have hone : (1 : U16).toNat = 1 := rfl
  rw [BitVec.toNat_add]
  omega

theorem envAdvance_of_count_reaches (hcnt : e.cnt.toNat ≤ 65534) (h : e.div.toNat ≤ e.cnt.toNat + 1) :
    envAdvance c e = envUpdate c { e with cnt := 0 } := by
  rw [← cnt_add_one_toNat hcnt] at h
  exact if_pos h

theorem envAdvance_of_count_below (h : e.cnt.toNat + 1 < e.div.toNat) :
    envAdvance c e = { e with cnt := e.cnt + 1 } := by
  rw [← cnt_add_one_toNat (by omega)] at h
  exact if_neg h.not_ge

theorem count_toNat {k : Nat} (h : e.cnt.toNat + k < e.div.toNat) :
    (BitVec.ofNat 16 (e.cnt.toNat + k)).toNat = e.cnt.toNat + k := by
  rw [BitVec.toNat_ofNat]
  exact Nat.mod_eq_of_lt (by omega)

/-- By induction on the calls, each of which counts from where the one before it left the counter. -/
theorem envAdvance_iterate_counts (k : Nat) (h : e.cnt.toNat + k < e.div.toNat) :
    (envAdvance c)^[k] e = { e with cnt := BitVec.ofNat 16 (e.cnt.toNat + k) } := by
  induction k with
  | zero => simp
  | succ k ih =>
    have hcnt := count_toNat (e := e) (k := k) (by omega)
    rw [Function.iterate_succ_apply', ih (by omega), envAdvance_of_count_below c (by dsimp only; omega)]
    congr 1
    apply BitVec.eq_of_toNat_eq
    rw [cnt_add_one_toNat (hcnt.le.trans (by omega)), count_toNat h, hcnt, Nat.add_assoc]

theorem envAdvance_iterate_updates (h : e.cnt.toNat < e.div.toNat) :
    (envAdvance c)^[e.div.toNat - e.cnt.toNat] e = envUpdate c { e with cnt := 0 } := by
  obtain ⟨k, hk⟩ := Nat.exists_eq_add_of_lt h
  have hcalls : e.div.toNat - e.cnt.toNat = k + 1 := by omega
  have hcnt := count_toNat (e := e) (k := k) (by omega)
  rw [hcalls, Function.iterate_succ_apply', envAdvance_iterate_counts c k (by omega)]
  exact envAdvance_of_count_reaches c (by dsimp only; omega) (by dsimp only; omega)

/-- Settles O41: the calls that only count, then the one that updates. -/
theorem dividerPeriod : Obligations.DividerPeriod := fun c _ =>
  ⟨envAdvance_iterate_counts c, envAdvance_iterate_updates c, envAdvance_of_count_reaches c, rfl, rfl⟩

end Sys2Proof.Machine
end

section
/-! The ordinary operating range is kept by every step without `rst` (R138, R198, R243). -/

namespace Sys2Proof.Machine

open Sys2Proof.Safety

theorem envOpen_normalEnv {e : EnvGen} (h : NormalEnv e) : NormalEnv (envOpen Config.reference e) := by
  obtain ⟨har, hdr, hrr, -, hlvl⟩ := h
  have hstart : Config.reference.envStart.toInt = 65536 := rfl
  exact ⟨har, hdr, hrr, by simp only [envOpen, hstart]; omega, hlvl⟩

/-- NOTE_OFF leaves the index, or sets it to a result of SEARCH, which is inside [0, 1.0] (R188, R189). -/
theorem envClose_normalEnv {e : EnvGen} (h : NormalEnv e) : NormalEnv (envClose Config.reference e) := by
  obtain ⟨har, hdr, hrr, hrange⟩ := h
  have hidx := idx_bounds_of_envInRange hrange
  obtain ⟨-, hlvl⟩ := hrange
  rw [envClose_eq]
  refine ⟨har, hdr, hrr, ?_, hlvl⟩
  dsimp only
  split
  · obtain ⟨-, hlo, hhi⟩ := searchResultForm Config.reference e.lvl rfl rfl
    rw [BitVec.toInt_eq_toNat_cond]
    omega
  · exact hidx

/-- OP.SAMPLE keeps a normal operator normal at every modulation. -/
theorem tick_normalVoice {v : Voice} (h : NormalVoice v) : NormalVoice (tick Config.reference v) := fun i => by
  obtain ⟨m, hop⟩ := tick_op Config.reference v i
  rw [hop]
  exact opSample_normalOperator (o := { v.op i with modin := m }) (h i)

section
variable {s : State} (hs : NormalVoice s.voice)
include hs

theorem mapOps_normalVoice {f : Operator → Operator} (hf : ∀ o, NormalOperator o → NormalOperator (f o)) :
    NormalVoice (s.voice.mapOps f) := fun i => by
  rw [Voice.mapOps_op]
  exact hf _ (hs i)

theorem updateOp_normalVoice {f : Operator → Operator} (hf : ∀ o, NormalOperator o → NormalOperator (f o))
    (k : OpIdx) : NormalVoice (s.updateOp k f).voice := fun i => by
  rw [State.updateOp_voice, Voice.setOp_op]
  split
  · exact hf _ (hs k)
  · exact hs i

theorem reject_normalVoice (cause : RejectCause) : NormalVoice (s.reject cause).voice := fun i => by
  rw [State.reject_voice, Voice.reject_op]
  exact hs i

theorem checked_normalVoice {max : Nat} {data : BitVec 32} {accepted t : State}
    (h : checked max data accepted s = .next t) (ha : NormalVoice accepted.voice) : NormalVoice t.voice := by
  rw [checked_next] at h
  cases h
  split
  · exact ha
  · exact reject_normalVoice hs _

theorem checked_updateOp_normalVoice {max : Nat} {data : BitVec 32} {t : State} {k : OpIdx} {f : Operator → Operator}
    (h : checked max data (s.updateOp k f) s = .next t) (hf : ∀ o, NormalOperator o → NormalOperator (f o)) :
    NormalVoice t.voice :=
  checked_normalVoice hs h (updateOp_normalVoice hs hf k)

end

section
variable {o : Operator} (h : NormalOperator o)
include h

theorem setPitch_normalOperator {p : Fx} (hp : NormalPitch p) : NormalOperator { o with pg := setPitch p o.pg } := by
  rw [normalOperator_iff] at h ⊢
  obtain ⟨-, hrest⟩ := h
  exact ⟨hp, hrest⟩

theorem setTune_normalOperator {p : Fx} (hp : NormalTune p) : NormalOperator { o with pg := setTune p o.pg } := by
  rw [normalOperator_iff] at h ⊢
  obtain ⟨hpitch, -, hrest⟩ := h
  exact ⟨hpitch, hp, hrest⟩

/-- A write to the envelope of an operator. -/
theorem setEg_normalOperator {f : EnvGen → EnvGen} (hf : ∀ e, NormalEnv e → NormalEnv (f e)) :
    NormalOperator { o with eg := f o.eg } := by
  rw [normalOperator_iff] at h ⊢
  obtain ⟨hpitch, htune, he, hfb⟩ := h
  exact ⟨hpitch, htune, hf _ he, hfb⟩

end

theorem exec_normalVoice {i : Instr} {s t : State} (hs : NormalVoice s.voice) (hi : normalInstr i)
    (h : exec i s = .next t) : NormalVoice t.voice := by
  cases i
  case tick =>
    cases h
    exact tick_normalVoice hs
  case noteOn pitch =>
    cases h
    refine fun j => ?_
    simp only [State.setVoice_voice, openAll, broadcastPitch, Voice.mapOps_op]
    exact setEg_normalOperator (setPitch_normalOperator (hs j) hi) fun _ => envOpen_normalEnv
  case noteOff =>
    cases h
    exact mapOps_normalVoice hs fun o ho => setEg_normalOperator ho fun _ => envClose_normalEnv
  case setFreq pitch =>
    cases h
    exact mapOps_normalVoice hs fun o ho => setPitch_normalOperator ho hi
  case setAlg n =>
    exact checked_normalVoice hs h fun
      | .o0 => hs .o0
      | .o1 => hs .o1
      | .o2 => hs .o2
      | .o3 => hs .o3
  case wrWave | wrTl | wrFbl | wrSusen | wrDiv =>
    exact checked_updateOp_normalVoice hs h fun _ ho => ho
  case wrTune k v =>
    cases h
    exact updateOp_normalVoice hs (fun o ho => setTune_normalOperator ho hi) k
  case wrSl k v =>
    cases h
    refine updateOp_normalVoice hs (fun _ ho => ?_) k
    exact ho
  case wrAr k v =>
    cases h
    refine updateOp_normalVoice hs (fun o ho => setEg_normalOperator (f := ({ · with ar := v })) ho ?_) k
    exact fun e ⟨_, hdr, hrr, hrange⟩ => ⟨hi, hdr, hrr, hrange⟩
  case wrDr k v =>
    cases h
    refine updateOp_normalVoice hs (fun o ho => setEg_normalOperator (f := ({ · with dr := v })) ho ?_) k
    exact fun e ⟨har, _, hrr, hrange⟩ => ⟨har, hi, hrr, hrange⟩
  case wrRr k v =>
    cases h
    refine updateOp_normalVoice hs (fun o ho => setEg_normalOperator (f := ({ · with rr := v })) ho ?_) k
    exact fun e ⟨har, hdr, _, hrange⟩ => ⟨har, hdr, hi, hrange⟩
  -- NOP and the stand-alone units do not touch the voice.
  all_goals
    cases h
    exact hs

/-- Settles O58, by what a step can do: with no input and on a rejected word the operators stay, and every instruction
within the bounds keeps each operator in the range. -/
theorem normalVoiceIsKept : Obligations.NormalVoiceIsKept := by
  intro s t hs hn hinstr h
  obtain ⟨-, rfl⟩ | ⟨rest, hin, -⟩ | ⟨w, rest, i, hin, hd, hex⟩ | ⟨w, rest, r, -, -, -, rfl⟩ := step_cases h
  · exact hs
  · exact absurd (by rw [hin]; rfl) hn
  · exact exec_normalVoice (s := s.accept rest) hs (hinstr w rest i hin hd) hex
  · exact reject_normalVoice (s := s.accept rest) hs _

end Sys2Proof.Machine
end

section
/-! How long a phase of the envelope lasts (R197, R347): an update of a sweep takes the rate off a positive index, or ends
the phase. -/

namespace Sys2Proof.Machine

/-- Each update of a phase with rate `rate` ends the phase, or goes on from an index that is `rate` lower and still
positive. -/
def Sweeps (phase ended : EnvGen → Prop) (rate : Fx) : Prop :=
  ∀ e, phase e → ended (envUpdate Config.reference e) ∨
    (phase (envUpdate Config.reference e) ∧ (envUpdate Config.reference e).idx = e.idx - rate ∧
      0 < (envUpdate Config.reference e).idx.toInt)

theorem sweeps_attack (rate : Fx) : Sweeps (fun e => e.st = .attack ∧ e.ar = rate) (·.st = .decay) rate := by
  rintro e ⟨hst, rfl⟩
  obtain ⟨hu, -⟩ := envelopeUpdateCases Config.reference e
  rw [hu hst]
  split
  · exact .inl rfl
  · next h =>
    obtain ⟨-, hfloor⟩ := not_or.1 h
    exact .inr ⟨⟨hst, rfl⟩, rfl, Int.not_le.1 hfloor⟩

theorem sweeps_release (rate : Fx) :
    Sweeps (fun e => e.st = .release ∧ e.rr = rate) (fun e => e.st = .idle ∧ e.lvl = 0) rate := by
  rintro e ⟨hst, rfl⟩
  obtain ⟨-, -, hu, -⟩ := envelopeUpdateCases Config.reference e
  rw [hu hst]
  split
  · exact .inl ⟨rfl, rfl⟩
  · next h =>
    obtain ⟨-, hfloor⟩ := not_or.1 h
    exact .inr ⟨⟨hst, rfl⟩, rfl, Int.not_le.1 hfloor⟩

theorem toInt_eq_toNat_of_pos {a : Fx} (h : 0 < a.toInt) : a.toInt = a.toNat := by
  rw [BitVec.toInt_eq_toNat_cond] at h ⊢
  omega

/-- The difference of positive values does not wrap. -/
theorem sub_toInt_of_pos {a b : Fx} (ha : 0 < a.toInt) (hb : 0 < b.toInt) : (a - b).toInt = a.toInt - b.toInt := by
  rw [← fxSub_eq]
  apply fxSub_toInt
  rw [subWraps_eq_false_iff]
  have := a.toInt_lt
  have := b.toInt_lt
  omega

/-- By induction on the bound: a sweep that can go on for `n` updates only is over after at most `n`. -/
theorem Sweeps.ends {phase ended : EnvGen → Prop} {rate : Fx} (h : Sweeps phase ended rate) (hrate : 0 < rate.toInt)
    {n : Nat} {e : EnvGen} (he : phase e) (hpos : 0 < e.idx.toInt) (hn : e.idx.toInt ≤ n * rate.toInt) :
    ∃ k, k + 1 ≤ n ∧ ended ((envUpdate Config.reference)^[k + 1] e) := by
  induction n generalizing e with
  | zero => omega
  | succ n ih =>
    obtain hended | ⟨hphase, hidx, hpos'⟩ := h e he
    · exact ⟨0, by omega, hended⟩
    · have hsub := sub_toInt_of_pos hpos hrate
      rw [← hidx] at hsub
      push_cast [Int.add_mul] at hn
      obtain ⟨k, hk, hended⟩ := ih hphase hpos' (by omega)
      exact ⟨k + 1, by omega, hended⟩

/-- The bound of R347, the rounded-up quotient of the index by the rate, is enough. -/
theorem Sweeps.ends_within_ceil {phase ended : EnvGen → Prop} {rate : Fx} (h : Sweeps phase ended rate)
    (hrate : 0 < rate.toInt) {e : EnvGen} (he : phase e) (hpos : 0 < e.idx.toInt) :
    ∃ k, k + 1 ≤ (e.idx.toNat + rate.toNat - 1) / rate.toNat ∧ ended ((envUpdate Config.reference)^[k + 1] e) := by
  have hidx := toInt_eq_toNat_of_pos hpos
  have hrate' := toInt_eq_toNat_of_pos hrate
  have hceil := le_smul_ceilDiv (a := rate.toNat) (b := e.idx.toNat) (by omega)
  rw [Nat.ceilDiv_eq_add_pred_div, smul_eq_mul, Nat.mul_comm] at hceil
  exact h.ends hrate he hpos (by rw [hidx, hrate']; exact_mod_cast hceil)

/-- Settles O48: Release sweeps down to Idle, and at or below the floor the test of the index ends it at once. -/
theorem releaseReachesIdle : Obligations.ReleaseReachesIdle := by
  intro e hst hrate
  refine ⟨fun hpos => ?_, fun hidx hfits => ?_⟩
  · obtain ⟨k, hk, hended⟩ := (sweeps_release e.rr).ends_within_ceil hrate ⟨hst, rfl⟩ hpos
    exact ⟨k + 1, hk, hended⟩
  · have hsub : (e.idx - e.rr).toInt = e.idx.toInt - e.rr.toInt := by
      rw [← fxSub_eq, fxSub_toInt ((subWraps_eq_false_iff _ _).2 ⟨hfits, by omega⟩)]
    have hfloor : Config.reference.envFloor.toInt = 0 := rfl
    obtain ⟨-, -, hu, -⟩ := envelopeUpdateCases Config.reference e
    rw [hu hst, if_pos (.inr (by omega))]
    rfl

end Sys2Proof.Machine
end

section
/-! NOTE_ON and the TICKs after it (R197, R255, R263). -/

namespace Sys2Proof.Machine

/-- One period of the divider, from a counter the hardware can hold: it ends with an update and the counter at 0. -/
theorem exists_envAdvance_iterate_eq_envUpdate (c : Config) {e : EnvGen} (hcnt : e.cnt.toNat ≤ 65534) :
    ∃ k, k ≤ max e.div.toNat 1 ∧ (envAdvance c)^[k] e = envUpdate c { e with cnt := 0 } := by
  by_cases h : e.cnt.toNat < e.div.toNat
  · exact ⟨_, by omega, envAdvance_iterate_updates c h⟩
  · exact ⟨1, le_max_right _ _, envAdvance_of_count_reaches c hcnt (by omega)⟩

theorem clearCnt_of_cnt_eq_zero {e : EnvGen} (h : e.cnt = 0) : { e with cnt := 0 } = e := by
  rw [← h]

/-- By induction on the updates: each takes at most one period. -/
theorem exists_envAdvance_iterate_eq_envUpdate_iterate (c : Config) (n : Nat) {e : EnvGen}
    (hcnt : e.cnt.toNat ≤ 65534) :
    ∃ k, k ≤ (n + 1) * max e.div.toNat 1 ∧
      (envAdvance c)^[k] e = (envUpdate c)^[n + 1] { e with cnt := 0 } := by
  induction n generalizing e with
  | zero => simpa using exists_envAdvance_iterate_eq_envUpdate c hcnt
  | succ n ih =>
    obtain ⟨k, hk, hupdate⟩ := exists_envAdvance_iterate_eq_envUpdate c hcnt
    obtain ⟨hcnt', -, -, -, -, -, hdiv⟩ := envUpdate_frame c { e with cnt := 0 }
    obtain ⟨k', hk', hrest⟩ := ih (e := envUpdate c { e with cnt := 0 }) (hcnt' ▸ Nat.zero_le _)
    rw [clearCnt_of_cnt_eq_zero hcnt'] at hrest
    rw [hdiv] at hk'
    refine ⟨k' + k, ?_, ?_⟩
    · rw [Nat.succ_mul]
      exact Nat.add_le_add hk' hk
    · rw [Function.iterate_add_apply, hupdate, hrest]
      rfl

theorem tick_iterate_op_eg (c : Config) (v : Voice) (i : OpIdx) (k : Nat) :
    (((tick c)^[k] v).op i).eg = (envAdvance c)^[k] (v.op i).eg :=
  Function.Semiconj.iterate_right (f := fun v : Voice => (v.op i).eg) (fun v => tick_op_eg c v i) k v

theorem core_run_succ_of_step {s s' : State} (h : step s = .next s') (k : Nat) : core.run (k + 1) s = core.run k s' := by
  have hcore : core.step s = .next s' := h
  simp only [Host.Core.run, hcore]

/-- A run over `k` words of TICK completes, and samples the voice `k` times. -/
theorem core_run_ticks (k : Nat) {s : State} (h : s.inputs = List.replicate k (.present (.host 0x0100000000))) :
    ∃ t : State, core.run k s = .next t ∧ t.voice = (tick Config.reference)^[k] s.voice := by
  induction k generalizing s with
  | zero => exact ⟨s, rfl, rfl⟩
  | succ k ih =>
    have hstep := step_of_decode_ok h (decode_voiceOpcode 1 0)
    rw [core_run_succ_of_step hstep]
    exact ih rfl

/-- A NOTE_ON and `k` TICKs. -/
theorem core_run_noteOn_ticks (s : State) (pitch : Fx) (k : Nat) (i : OpIdx) :
    ∃ t : State, core.run (k + 1) { s with
        inputs := .present (.host (hostWord 0x02 pitch)) :: List.replicate k (.present (.host 0x0100000000)) } =
      .next t ∧
      (t.voice.op i).eg = (envAdvance Config.reference)^[k] (envOpen Config.reference (s.voice.op i).eg) := by
  have hstep := step_of_decode_ok (s := { s with
    inputs := .present (.host (hostWord 0x02 pitch)) :: List.replicate k (.present (.host 0x0100000000)) }) rfl
    (decode_voiceOpcode 2 pitch)
  rw [core_run_succ_of_step hstep]
  obtain ⟨t, ht, hvoice⟩ := core_run_ticks k
    (s := { s with
      voice := openAll Config.reference (broadcastPitch pitch s.voice), sampleValid := false
      inputs := List.replicate k (.present (.host 0x0100000000)) }) rfl
  refine ⟨t, ht, ?_⟩
  rw [hvoice, tick_iterate_op_eg]
  simp [openAll, broadcastPitch]

/-- Settles O47: NOTE_ON starts a sweep from 1.0, and each of its updates takes at most one period of TICKs. -/
theorem attackReachesDecay : Obligations.AttackReachesDecay := by
  intro s pitch i hrate hcnt
  have hstart : 0 < Config.reference.envStart.toInt := by decide
  obtain ⟨n, hn, hdecay⟩ := (sweeps_attack _).ends_within_ceil hrate
    (e := { envOpen Config.reference (s.voice.op i).eg with cnt := 0 }) ⟨rfl, rfl⟩ hstart
  obtain ⟨k, hk, hupdates⟩ := exists_envAdvance_iterate_eq_envUpdate_iterate Config.reference n
    (e := envOpen Config.reference (s.voice.op i).eg) hcnt
  obtain ⟨t, hrun, heg⟩ := core_run_noteOn_ticks s pitch k i
  refine ⟨k, hk.trans (Nat.mul_le_mul_right _ hn), t, hrun, ?_⟩
  rw [heg, hupdates]
  exact hdecay

end Sys2Proof.Machine
end

section
/-! The two fields of a phase (R220): the quadrant is the phase divided by the quarter period, the sub-phase the
remainder. Half a period on, the quadrant is the opposite one and the sub-phase the same. -/

namespace Sys2Proof.Machine

/-- `p[15:14]` in this quadrant (R220). -/
def Quadrant.code : Quadrant → Nat
  | .q0 => 0 | .q1 => 1 | .q2 => 2 | .q3 => 3

/-- The quadrant half a period on. -/
def Quadrant.opposite : Quadrant → Quadrant
  | .q0 => .q2 | .q1 => .q3 | .q2 => .q0 | .q3 => .q1

theorem Quadrant.code_injective : Function.Injective Quadrant.code := by
  rintro (_ | _) (_ | _) <;> simp [Quadrant.code]

theorem quadrant_code (p : U16) : (quadrant p).code = p.toNat / 16384 := by
  have h15 : p.getLsbD 15 = decide (p.toNat / 32768 % 2 = 1) := Nat.testBit_eq_decide_div_mod_eq
  have h14 : p.getLsbD 14 = decide (p.toNat / 16384 % 2 = 1) := Nat.testBit_eq_decide_div_mod_eq
  have hp := p.isLt
  rw [quadrant, h15, h14]
  split <;> simp_all only [decide_eq_true_eq, decide_eq_false_iff_not, Quadrant.code] <;> omega

theorem quadrant_eq_of_div {p : U16} {q : Quadrant} (h : p.toNat / 16384 = q.code) : quadrant p = q :=
  Quadrant.code_injective ((quadrant_code p).trans h)

theorem subPhase_val (p : U16) : (subPhase p).val = p.toNat % 16384 := by
  simp [subPhase]

theorem quadrant_halfPeriod (p : U16) : quadrant (p ^^^ 0x8000) = (quadrant p).opposite := by
  have h15 : (p ^^^ 0x8000).getLsbD 15 = !p.getLsbD 15 := by simp
  have h14 : (p ^^^ 0x8000).getLsbD 14 = p.getLsbD 14 := by simp
  rw [quadrant, quadrant, h15, h14]
  cases p.getLsbD 15 <;> cases p.getLsbD 14 <;> rfl

theorem subPhase_halfPeriod (p : U16) : subPhase (p ^^^ 0x8000) = subPhase p := by
  rw [subPhase, BitVec.extractLsb'_xor]
  exact congrArg BitVec.toFin BitVec.xor_zero

end Sys2Proof.Machine
end

section
/-! The eight shapes on the stand-alone waveform unit, per quadrant (R221 to R229), with the argument of SINQ written as
an integer. -/

namespace Sys2Proof.Machine

theorem exec_decodeWave (sel : Shape) (p : U16) (s : State) :
    exec (decodeWave sel.code p) s = .next (s.setWaveY (waveform Config.reference sel p)) := by
  cases sel <;> rfl

/-- The stand-alone unit answers WAVE(sel, p), the function OP.SAMPLE reads (R229). -/
theorem exec_wave_eq_waveform (s : State) (p : U16) :
    exec (.waveFullSine p) s = .next { s with waveY := waveform Config.reference .fullSine p } ∧
    exec (.waveHalfSine p) s = .next { s with waveY := waveform Config.reference .halfSine p } ∧
    exec (.waveDblHalfSine p) s = .next { s with waveY := waveform Config.reference .dblHalfSine p } ∧
    exec (.waveDblQuartSine p) s = .next { s with waveY := waveform Config.reference .dblQuartSine p } ∧
    exec (.waveFastSine p) s = .next { s with waveY := waveform Config.reference .fastSine p } ∧
    exec (.waveFastHalfSine p) s = .next { s with waveY := waveform Config.reference .fastHalfSine p } ∧
    exec (.waveSawish p) s = .next { s with waveY := waveform Config.reference .sawish p } ∧
    exec (.waveSquare p) s = .next { s with waveY := waveform Config.reference .square p } :=
  ⟨exec_decodeWave .fullSine p s, exec_decodeWave .halfSine p s, exec_decodeWave .dblHalfSine p s,
    exec_decodeWave .dblQuartSine p s, exec_decodeWave .fastSine p s, exec_decodeWave .fastHalfSine p s,
    exec_decodeWave .sawish p s, exec_decodeWave .square p s⟩

section
variable {p : U16} {a : Fin 16385}

theorem eq_rise_subPhase (h : a.val = p.toNat % 16384) : a = rise (subPhase p) :=
  Fin.ext (h.trans (subPhase_val p).symm)

theorem eq_mirror_subPhase (h : a.val = 16384 - p.toNat % 16384) : a = mirror (subPhase p) := by
  rw [← subPhase_val] at h
  exact Fin.ext h

theorem eq_fold_subPhase
    (h : a.val = if p.toNat % 16384 < 8192 then 2 * (p.toNat % 16384) else 2 * (16384 - p.toNat % 16384)) :
    a = fold (subPhase p) := by
  rw [← subPhase_val] at h
  rw [fold]
  split at h <;> simp [Fin.ext_iff, *]

end

/-- Settles O49: in each quadrant the argument is the sub-phase or its mirror image. -/
theorem sineShapes : Obligations.SineShapes := by
  intro s p a
  obtain ⟨hfull, hhalf, hdblHalf, -⟩ := exec_wave_eq_waveform s p
  simp only [hfull, hhalf, hdblHalf, waveform, fullSine, halfSine, dblHalfSine]
  refine ⟨fun hp ha => ?_, fun hp ha => ?_, fun hp ha => ?_, fun hp ha => ?_⟩
  · simp [quadrant_eq_of_div (q := .q0) hp, eq_rise_subPhase ha, sineAt]
  · simp [quadrant_eq_of_div (q := .q1) hp, eq_mirror_subPhase ha, sineAt]
  · simp [quadrant_eq_of_div (q := .q2) hp, eq_rise_subPhase ha, sineAt]
  · simp [quadrant_eq_of_div (q := .q3) hp, eq_mirror_subPhase ha, sineAt]

/-- Settles O50: the argument is the sub-phase in every quadrant; Square reads no table. -/
theorem quarterAndSquareShapes : Obligations.QuarterAndSquareShapes := by
  intro s p a ha
  obtain ⟨-, -, -, hdblQuart, -, -, -, hsquare⟩ := exec_wave_eq_waveform s p
  simp only [hdblQuart, hsquare, waveform, dblQuartSine, square, eq_rise_subPhase ha]
  refine ⟨fun hp => ?_, fun hp => ?_, fun hp => ?_, fun hp => ?_⟩
  · simp [quadrant_eq_of_div (q := .q0) hp, sineAt]
  · simp [quadrant_eq_of_div (q := .q1) hp]
  · simp [quadrant_eq_of_div (q := .q2) hp, sineAt]
  · simp [quadrant_eq_of_div (q := .q3) hp]

/-- Settles O51: the argument is the folded sub-phase, and from half a period on, in both quadrants, the value is 0. -/
theorem fastShapes : Obligations.FastShapes := by
  intro s p a ha
  obtain ⟨-, -, -, -, hfast, hfastHalf, -⟩ := exec_wave_eq_waveform s p
  simp only [hfast, hfastHalf, waveform, fastSine, fastHalfSine, eq_fold_subPhase ha]
  refine ⟨fun hp => ?_, fun hp => ?_, fun hp => ?_⟩
  · simp [quadrant_eq_of_div (q := .q0) hp, sineAt]
  · simp [quadrant_eq_of_div (q := .q1) hp, sineAt]
  · rw [← quadrant_code] at hp
    cases hq : quadrant p with
    | q0 | q1 => simp [hq, Quadrant.code] at hp
    | q2 | q3 => exact ⟨rfl, rfl⟩

/-- Settles O52: the argument runs up the first half of the quarter wave, or down it, from one end or the other. -/
theorem sawishShape : Obligations.SawishShape := by
  intro s p a
  obtain ⟨-, -, -, -, -, -, hsawish, -⟩ := exec_wave_eq_waveform s p
  simp only [hsawish, waveform, sawish, ← subPhase_val]
  refine ⟨fun hp ha => ?_, fun hp ha => ?_, fun hp ha => ?_, fun hp ha => ?_⟩
  · simp [quadrant_eq_of_div (q := .q0) hp, ← ha, sineAt]
  · simp [quadrant_eq_of_div (q := .q1) hp, ← ha, sineAt]
  · simp [quadrant_eq_of_div (q := .q2) hp, ← ha, sineAt]
  · simp [quadrant_eq_of_div (q := .q3) hp, ← ha, sineAt]

end Sys2Proof.Machine
end

section
/-! Symmetries of the shapes (R223, R226, R231). -/

namespace Sys2Proof.Machine

variable (c : Config)

theorem abs_toInt_sineAt (a : Fin 16385) : |(sineAt c a).toInt| = (sineAt c a).toInt :=
  abs_of_nonneg (sineAt_bounds c a).1

theorem abs_toInt_neg_sineAt (a : Fin 16385) : |(-sineAt c a).toInt| = (sineAt c a).toInt := by
  have hne : sineAt c a ≠ BitVec.intMin 32 := fun h => absurd (h ▸ sineAt_bounds c a).1 (by decide)
  rw [BitVec.toInt_neg_of_ne_intMin hne, abs_neg, abs_toInt_sineAt]

theorem fullSine_opposite (q : Quadrant) (w : Fin 16384) : fullSine c q.opposite w = -fullSine c q w := by
  cases q <;> simp [Quadrant.opposite, fullSine]

theorem abs_fullSine (q : Quadrant) (w : Fin 16384) : |(fullSine c q w).toInt| = (dblHalfSine c q w).toInt := by
  cases q <;> simp [fullSine, dblHalfSine, abs_toInt_sineAt, abs_toInt_neg_sineAt]

theorem abs_fastSine (q : Quadrant) (w : Fin 16384) : |(fastSine c q w).toInt| = (fastHalfSine c q w).toInt := by
  cases q <;> simp [fastSine, fastHalfSine, abs_toInt_sineAt, abs_toInt_neg_sineAt]

theorem waveform_fullSine_halfPeriod (p : U16) : waveform c .fullSine (p ^^^ 0x8000) = -waveform c .fullSine p := by
  rw [waveform, quadrant_halfPeriod, subPhase_halfPeriod]
  exact fullSine_opposite c _ _

/-- Settles O53: the dispatch, the symmetries quadrant by quadrant, and the range of every shape. -/
theorem waveSymmetriesAndRange : Obligations.WaveSymmetriesAndRange :=
  ⟨exec_wave_eq_waveform, fun c p => ⟨waveform_fullSine_halfPeriod c p, (abs_fullSine c _ _).symm,
    (abs_fastSine c _ _).symm, fun sel => abs_waveform_le c sel p⟩⟩

end Sys2Proof.Machine
end

section
/-! OP.SAMPLE (R240 to R243): the phase of the wave, the output with its test of silence, the range. -/

namespace Sys2Proof.Machine

theorem scale8_toNat (v : BitVec 8) : (Config.reference.scale8 v).toNat = v.toNat * 65536 / 255 := by
  have hv := v.isLt
  have hfits : v.toNat * 65536 / 255 < 2 ^ 32 := by omega
  exact (BitVec.toNat_ofNat _ _).trans (Nat.mod_eq_of_lt hfits)

/-- Settles O55: the quotient is at most 65536, so it is an `fx`. -/
theorem scaleOfLevel : Obligations.ScaleOfLevel :=
  ⟨scale8_toNat, rfl, rfl⟩

section
variable (c : Config) (o : Operator)

/-- The two sums of OP.SAMPLE, MODIN + FB and the phase plus it, are one sum modulo one cycle (R171, R240). -/
theorem opPhase_toNat :
    (phaseUpdate c o.pg (opModulation o)).2.toNat =
      ((opSample c o).1.pg.acc.toNat + o.modin.toNat + o.fb.toNat) % 65536 := by
  have hmod : (opModulation o).toNat % 65536 = (o.modin.toNat + o.fb.toNat) % 65536 := by
    rw [opModulation, fxAdd_eq, BitVec.toNat_add]
    omega
  have hphase : (phaseUpdate c o.pg (opModulation o)).2.toNat =
      ((opSample c o).1.pg.acc.toNat + (opModulation o).toNat) % 65536 := phaseAdd_toNat _ _
  omega

theorem opOutput_eq :
    opOutput c o = if opLevel c o = 0 ∨ o.tl = 0 then 0
      else fxMul (fxMul (opWave c o) (opLevel c o)) (c.scale8 o.tl) := by
  simp [opOutput]

end

/-- Settles O54: the wave is taken at the one phase that the sum allows; the writes are those of `opAdvance`. -/
theorem operatorSampleLaw : Obligations.OperatorSampleLaw := by
  intro c o p hp
  have hphase : (phaseUpdate c o.pg (opModulation o)).2 = p :=
    BitVec.eq_of_toNat_eq ((opPhase_toNat c o).trans hp.symm)
  refine ⟨?_, rfl, rfl⟩
  rw [← hphase]
  exact opOutput_eq c o

/-- Settles O56: a muted operator puts out 0, and the feedback is a product with the output. -/
theorem silenceGuarantee : Obligations.SilenceGuarantee := by
  intro c o hmuted
  have hout : (opSample c o).2 = 0 := (opOutput_eq c o).trans (if_pos hmuted.symm)
  have hfb : (opSample c o).1.fb = fxMul (opSample c o).2 (c.scale8 o.fbl) := rfl
  exact ⟨hout, by rw [hfb, hout, fxMul_zero_left]⟩

/-- Here the level alone is assumed in range: the output is 0, or a product of values in [-1.0, 1.0] (R243). -/
theorem abs_opOutput_le_of_level {o : Operator} (hlevel : |(opLevel Config.reference o).toInt| ≤ 65536) :
    |(opOutput Config.reference o).toInt| ≤ 65536 := by
  rw [opOutput_eq]
  split
  · simp
  · obtain ⟨-, hwave⟩ := fxMul_unit (abs_waveform_le Config.reference o.wave _) hlevel
    exact (fxMul_unit hwave (abs_scale8_le o.tl)).2

/-- Settles O57: the output, then the feedback as one more product with a gain in [0, 1.0]. -/
theorem operatorOutputRange : Obligations.OperatorOutputRange := by
  intro o hlo hhi
  have hlevel : |(opLevel Config.reference o).toInt| ≤ 65536 := abs_le.2 ⟨le_trans (by decide) hlo, hhi⟩
  have hout := abs_opOutput_le_of_level hlevel
  exact ⟨hout, (fxMul_unit hout (abs_scale8_le o.fbl)).2⟩

end Sys2Proof.Machine
end

section
/-! The event commands (R262 to R264): each broadcasts one update to the four operators, and a broadcast changes nothing
else. -/

namespace Sys2Proof.Machine

open Sys2Proof.Safety

theorem eachOp_mapOps (f : Operator → Operator) (s : State) : EachOp f s (s.setVoice (s.voice.mapOps f)) :=
  ⟨Voice.mapOps_op s.voice f, ⟨rfl, rfl, rfl, rfl, rfl⟩, rfl, rfl, rfl, rfl⟩

/-- Settles O14: SET_FREQ is the broadcast of the pitch. -/
theorem setFreqBroadcastsPitch : Obligations.SetFreqBroadcastsPitch := fun pitch s =>
  ⟨decode_voiceOpcode 4 pitch, _, rfl, eachOp_mapOps _ s⟩

/-- Settles O15: the broadcasts of the pitch and of EG.OPEN are one broadcast. -/
theorem noteOnOpensEveryEnvelope : Obligations.NoteOnOpensEveryEnvelope := fun pitch s =>
  ⟨decode_voiceOpcode 2 pitch, _, rfl, eachOp_mapOps _ s⟩

/-- Settles O16: NOTE_OFF is the broadcast of EG.CLOSE, in its one formula for all five states. -/
theorem noteOffClosesEveryEnvelope : Obligations.NoteOffClosesEveryEnvelope := by
  intro data s
  refine ⟨decode_voiceOpcode 3 data, _, execNoteOff_eq s, ?_⟩
  simp only [closeAll, envClose_eq]
  exact eachOp_mapOps _ s

end Sys2Proof.Machine
end

section
/-! The routing of a TICK (R255 to R258): what the turns before an operator leave in the scratch registers is the fold of
their outputs over their sinks, and that is what the operator's source selector reads. -/

namespace Sys2Proof.Machine

open Sys2Proof.Safety

/-- The operators whose turn comes before that of operator `i` (R256). -/
def turnsBefore : OpIdx → List OpIdx
  | .o0 => []
  | .o1 => [.o0]
  | .o2 => [.o0, .o1]
  | .o3 => [.o0, .o1, .o2]

/-- The outputs `y` of some operators, each with its sink under the `ALG_ROM` word (R70, R257). -/
def sunkOutputs (word : U16) (y : OpIdx → Fx) (is : List OpIdx) : List (RouteSel × Fx) :=
  is.map fun j => ((routeRule word j).snk, y j)

/-- The modulation of operator `i` under the word, when the operators put out `y` (R255). -/
def routedModulation (word : U16) (y : OpIdx → Fx) (i : OpIdx) : Fx :=
  readScratch (routeRule word i).src (scratchAfter (sunkOutputs word y (turnsBefore i)))

/-- (Output, Adder) after the four turns under the word (R257). -/
def routedScratch (word : U16) (y : OpIdx → Fx) : Fx × Fx :=
  scratchAfter (sunkOutputs word y [.o0, .o1, .o2, .o3])

/-- The sample under the word: the register that operator 3 sinks into (R258). -/
def routedSample (word : U16) (y : OpIdx → Fx) : Fx := readScratch (routeRule word .o3).snk (routedScratch word y)

/-- The voice when operator `i` has its turn in a TICK. -/
def voiceAtTurn (c : Config) (v : Voice) (i : OpIdx) : Voice := (turnsBefore i).foldl (tickOp c) v.clearScratch

/-- The output of operator `i` in a TICK. -/
def tickOutput (c : Config) (v : Voice) (i : OpIdx) : Fx := (opSample c ((voiceAtTurn c v i).modulated c i)).2

theorem reg_eq_readScratch (v : Voice) (sel : RouteSel) : v.reg sel = readScratch sel (v.out, v.adr) := by
  cases sel <;> rfl

/-- A sink extends the fold of the sinks before it by one result. -/
theorem sink_scratch {v : Voice} {sunk : List (RouteSel × Fx)} (h : (v.out, v.adr) = scratchAfter sunk)
    (sel : RouteSel) (y : Fx) :
    ((v.sink sel y).out, (v.sink sel y).adr) = scratchAfter (sunk ++ [(sel, y)]) := by
  rw [scratchAfter, List.foldl_append, ← scratchAfter, ← h]
  cases sel
  · rfl
  · rfl
  · simp

section
variable (c : Config) (v : Voice)

theorem voiceAtTurn_route (i j : OpIdx) : (voiceAtTurn c v i).route c j = v.route c j := by
  cases i <;> simp [voiceAtTurn, turnsBefore]

/-- An operator waits for its turn untouched. -/
theorem voiceAtTurn_op (i : OpIdx) : (voiceAtTurn c v i).op i = v.op i := by
  cases i <;> simp [voiceAtTurn, turnsBefore, tickOp_op]

/-- A turn adds its own output to those sunk before it. -/
theorem tickOp_scratch {i : OpIdx}
    (h : ((voiceAtTurn c v i).out, (voiceAtTurn c v i).adr) =
      scratchAfter (sunkOutputs (c.algRom v.alg) (tickOutput c v) (turnsBefore i))) :
    ((tickOp c (voiceAtTurn c v i) i).out, (tickOp c (voiceAtTurn c v i) i).adr) =
      scratchAfter (sunkOutputs (c.algRom v.alg) (tickOutput c v) (turnsBefore i ++ [i])) := by
  rw [tickOp, voiceAtTurn_route, sunkOutputs, List.map_append, ← sunkOutputs]
  exact sink_scratch (by simpa using h) _ _

/-- The scratch registers at the turn of an operator: those of lower index are sunk, in order (R256, R257). -/
theorem voiceAtTurn_scratch (i : OpIdx) :
    ((voiceAtTurn c v i).out, (voiceAtTurn c v i).adr) =
      scratchAfter (sunkOutputs (c.algRom v.alg) (tickOutput c v) (turnsBefore i)) := by
  have h0 : (v.clearScratch.out, v.clearScratch.adr) = scratchAfter [] := rfl
  have h1 := tickOp_scratch c v (i := .o0) h0
  have h2 := tickOp_scratch c v (i := .o1) h1
  have h3 := tickOp_scratch c v (i := .o2) h2
  cases i
  · exact h0
  · exact h1
  · exact h2
  · exact h3

theorem tick_eq_latchSample : tick c v = (tickOp c (voiceAtTurn c v .o3) .o3).latchSample c := rfl

theorem tick_scratch : ((tick c v).out, (tick c v).adr) = routedScratch (c.algRom v.alg) (tickOutput c v) := by
  rw [tick_eq_latchSample, Voice.latchSample_out, Voice.latchSample_adr,
    tickOp_scratch c v (voiceAtTurn_scratch c v .o3)]
  rfl

theorem tick_out : (tick c v).out = (routedScratch (c.algRom v.alg) (tickOutput c v)).1 :=
  congrArg Prod.fst (tick_scratch c v)

theorem tick_adr : (tick c v).adr = (routedScratch (c.algRom v.alg) (tickOutput c v)).2 :=
  congrArg Prod.snd (tick_scratch c v)

/-- At its turn an operator takes its modulation from the outputs of the operators of lower index (R255, R256). -/
theorem voiceAtTurn_modulated (i : OpIdx) :
    (voiceAtTurn c v i).modulated c i =
      { v.op i with modin := routedModulation (c.algRom v.alg) (tickOutput c v) i } := by
  rw [modulated_eq, voiceAtTurn_op, voiceAtTurn_route, reg_eq_readScratch, voiceAtTurn_scratch]
  rfl

/-- TICK is OP.SAMPLE of every operator, at the modulation its route gives (R255). -/
theorem tick_op_eq_opSample (i : OpIdx) :
    ((tick c v).op i, tickOutput c v i) =
      opSample c { v.op i with modin := routedModulation (c.algRom v.alg) (tickOutput c v) i } := by
  have hop : (tick c v).op i = (opSample c ((voiceAtTurn c v i).modulated c i)).1 := by
    cases i <;> simp [tick, tickOps, tickOp_op, voiceAtTurn, turnsBefore]
  rw [← voiceAtTurn_modulated, hop]
  rfl

theorem tick_op_modin (i : OpIdx) :
    ((tick c v).op i).modin = routedModulation (c.algRom v.alg) (tickOutput c v) i := by
  have hop := congrArg Prod.fst (tick_op_eq_opSample c v i)
  exact (congrArg Operator.modin hop).trans (opSample_frame c _).1

theorem tick_smp : (tick c v).smp = readScratch (v.route c .o3).snk ((tick c v).out, (tick c v).adr) := by
  rw [tick_eq_latchSample, Voice.latchSample_smp, tickOp_route, voiceAtTurn_route, reg_eq_readScratch]
  rfl

theorem tick_smp_eq_routedSample : (tick c v).smp = routedSample (c.algRom v.alg) (tickOutput c v) := by
  rw [tick_smp, tick_scratch]
  rfl

end

/-- Settles O20: the routed modulations and the routed scratch registers, written out per operator. -/
theorem tickRoutesInIndexOrder : Obligations.TickRoutesInIndexOrder := by
  intro c v
  have hop := tick_op_eq_opSample c v
  obtain ⟨halg, herr⟩ := tick_alg_err c v
  exact ⟨tickOutput c v .o0, tickOutput c v .o1, tickOutput c v .o2, tickOutput c v .o3, hop .o0, hop .o1, hop .o2,
    hop .o3, tick_scratch c v, tick_smp c v, halg, herr⟩

end Sys2Proof.Machine
end

section
/-! The eight reference algorithms (R259 to R261): the routes of their words in `ALG_ROM`. -/

namespace Sys2Proof.Machine

open Sys2Proof.Safety

/-- Operator 0 reads cleared scratch registers (R255). -/
theorem routedModulation_first (word : U16) (y : OpIdx → Fx) : routedModulation word y .o0 = 0 := by
  rw [routedModulation]
  cases (routeRule word .o0).src <;> rfl

/-- One row of R261's table: the modulations of operators 1 to 3 and the registers, when the operators put out `y`. -/
def RoutesTo (word : U16) (y : OpIdx → Fx) (m1 m2 m3 smp out adr : Fx) : Prop :=
  routedModulation word y .o1 = m1 ∧ routedModulation word y .o2 = m2 ∧ routedModulation word y .o3 = m3 ∧
    routedSample word y = smp ∧ (routedScratch word y).1 = out ∧ (routedScratch word y).2 = adr

/-- R261's table, from the words of `ALG_ROM` (R70). -/
theorem routesTo_reference (y : OpIdx → Fx) :
    RoutesTo (Config.reference.algRom 0) y (y .o0) (y .o1) (y .o2) (y .o3) (y .o3) 0 ∧
    RoutesTo (Config.reference.algRom 1) y (y .o0) 0 (y .o2) (y .o1 + y .o3) (y .o2) (y .o1 + y .o3) ∧
    RoutesTo (Config.reference.algRom 2) y (y .o0) (y .o1) (y .o1) (y .o2 + y .o3) (y .o1) (y .o2 + y .o3) ∧
    RoutesTo (Config.reference.algRom 3) y (y .o0) (y .o0) (y .o0) (y .o1 + y .o2 + y .o3) (y .o0)
      (y .o1 + y .o2 + y .o3) ∧
    RoutesTo (Config.reference.algRom 4) y 0 (y .o0 + y .o1) (y .o2) (y .o3) (y .o3) (y .o0 + y .o1) ∧
    RoutesTo (Config.reference.algRom 5) y (y .o0) (y .o0 + y .o1) (y .o2) (y .o3) (y .o3) (y .o0 + y .o1) ∧
    RoutesTo (Config.reference.algRom 6) y (y .o0) (y .o1) 0 (y .o2 + y .o3) (y .o1) (y .o2 + y .o3) ∧
    RoutesTo (Config.reference.algRom 7) y 0 0 0 (y .o0 + y .o1 + y .o2 + y .o3) 0 (y .o0 + y .o1 + y .o2 + y .o3) := by
  refine ⟨?_, ?_, ?_, ?_, ?_, ?_, ?_, ?_⟩
  all_goals
    simp [RoutesTo, Config.reference, algWords, routeRule, routeNibble, RouteSel.ofBits, routedModulation, turnsBefore,
      routedSample, routedScratch, sunkOutputs, scratchAfter, readScratch]

/-- Settles O21: completion and frame from the equation of TICK, the operators and registers from the routes of the
selected word, and then the row of each algorithm. -/
theorem tickUnderEachAlgorithm : Obligations.TickUnderEachAlgorithm := by
  intro s
  obtain ⟨halg, herr⟩ := tick_alg_err Config.reference s.voice
  refine ⟨s.deliver (tick Config.reference s.voice), _, tickOutput Config.reference s.voice, execTick_eq s, rfl,
    tick_op_eq_opSample Config.reference s.voice, tick_op_modin Config.reference s.voice, halg, herr,
    routedModulation_first _ _, ?_⟩
  rw [State.deliver_voice, tick_smp_eq_routedSample, tick_out, tick_adr]
  obtain ⟨h0, h1, h2, h3, h4, h5, h6, h7⟩ := routesTo_reference (tickOutput Config.reference s.voice)
  exact ⟨fun h => h ▸ h0, fun h => h ▸ h1, fun h => h ▸ h2, fun h => h ▸ h3, fun h => h ▸ h4, fun h => h ▸ h5,
    fun h => h ▸ h6, fun h => h ▸ h7⟩

end Sys2Proof.Machine
end

section
/-! Reset, and the steps that take no word (R319, R330, R331). -/

namespace Sys2Proof.Machine

/-- Settles O1: the four operators of the voice at reset are all `Operator.reset`. -/
theorem resetRegisterValues : Obligations.ResetRegisterValues :=
  ⟨rfl, rfl, rfl, rfl, rfl, Voice.reset_op⟩

/-- Settles O3: the step's equations for no input and for `rst`, with the named updates of the state written out. -/
theorem stepIdlesAndResets : Obligations.StepIdlesAndResets :=
  ⟨fun _ => step_of_no_input, fun _ _ => step_of_rst⟩

end Sys2Proof.Machine
end

section
/-! Reserved host opcodes (R103, R303): the decoder rejects each of them, and the step makes that `reject(BADOP)`. -/

namespace Sys2Proof.Machine

open Sys2Proof.Safety

theorem reservedOpcode_iff (op : Nat) :
    reservedOpcode op = true ↔ (6 ≤ op ∧ op < 128) ∨ (128 ≤ op ∧ 10 ≤ op % 32) := by
  simp [reservedOpcode, and_comm]

/-- The two ranges of reserved opcodes are the two reasons for which a host command is rejected (R94, R95). -/
theorem decode_error_of_reservedOpcode {cmd : BitVec 40} (h : reservedOpcode (cmd.toNat / 2 ^ 32) = true) :
    ∃ r, decode (.host cmd) = .error r ∧ r ≠ .reservedFunction := by
  obtain hvoice | hreg := (reservedOpcode_iff _).1 h
  · exact ⟨_, (decode_eq_reservedOpcode_iff cmd).2 hvoice, nofun⟩
  · exact ⟨_, (decode_eq_reservedRegister_iff cmd).2 hreg, nofun⟩

theorem takeReject_of_ne_reservedFunction {r : DecodeReject} (h : r ≠ .reservedFunction) (s : State) :
    takeReject r s = .next (s.reject .badop) := by
  obtain ⟨-, ht⟩ | ⟨hr, -⟩ := takeReject_cases r s
  · exact ht
  · exact absurd hr h

/-- Settles O4: a reserved opcode is rejected at decode, and its step is the reject of BADOP. -/
theorem reservedOpcodeSetsBadop : Obligations.ReservedOpcodeSetsBadop := by
  refine ⟨fun s cmd rest hin hres => ?_, by decide +kernel⟩
  obtain ⟨r, hd, hr⟩ := decode_error_of_reservedOpcode hres
  exact (step_of_decode_error hin hd).trans (takeReject_of_ne_reservedFunction hr _)

end Sys2Proof.Machine
end

section
/-! Bounded writes (R282, R304): within the bound the write is executed whole, above it there is `reject(BADVAL)` only. -/

namespace Sys2Proof.Machine

open Sys2Proof.Safety

section
variable {max : Nat} {data : BitVec 32} {accepted s : State}

theorem checked_of_le (h : data.toNat ≤ max) : checked max data accepted s = .next accepted := by
  rw [checked_next, if_pos h]

theorem checked_of_lt (h : max < data.toNat) :
    checked max data accepted s = .next (withErr s (s.voice.err ||| 0b10)) := by
  rw [checked_next, if_neg (Nat.not_le.2 h)]
  rfl

end

theorem lowBits_eq_setWidth (n : Nat) (data : BitVec 32) : lowBits n data = data.setWidth n := by
  rw [← BitVec.toNat_inj, lowBits, BitVec.extractLsb'_toNat, BitVec.toNat_setWidth, Nat.shiftRight_zero]

/-- Settles O13: opcode 0 is NOP whatever its data, and NOP answers the state it got. -/
theorem nopChangesNothing : Obligations.NopChangesNothing := fun data _ => ⟨decode_voiceOpcode 0 data, rfl⟩

/-- Settles O17: SET_ALG is the bounded write of `ALG`, with bound 7. -/
theorem setAlgWritesAlg : Obligations.SetAlgWritesAlg := by
  intro n s
  refine ⟨decode_voiceOpcode 5 n, fun h => ?_, checked_of_lt⟩
  rw [← lowBits_eq_setWidth]
  exact checked_of_le h

end Sys2Proof.Machine
end

section
/-! The WR commands (R282 to R292): the opcode `0x80 + 32*i + r` is decoded by its register number, and a write to
operator `i` changes nothing else. -/

namespace Sys2Proof.Machine

open Sys2Proof.Safety

theorem wrOpcode_eq_ofNat (i : OpIdx) (r : BitVec 5) :
    BitVec.ofNat 8 (0x80 + 32 * i.bits.toNat + r.toNat) = wrOpcode i r := by
  rw [← wrOpcode_toNat, BitVec.ofNat_toNat, BitVec.setWidth_eq]

theorem decode_wr (i : OpIdx) (r : BitVec 5) (v : BitVec 32) :
    decode (.host (hostWord (BitVec.ofNat 8 (0x80 + 32 * i.bits.toNat + r.toNat)) v)) = decodeWr i r v := by
  rw [wrOpcode_eq_ofNat, decode_wrOpcode]

theorem onlyOp_updateOp (i : OpIdx) (f : Operator → Operator) (s : State) :
    OnlyOp i (f (s.voice.op i)) s (s.updateOp i f) := by
  refine ⟨by simp, fun j hj => ?_, by simp [SameVoiceRegs], by simp [SameOutside]⟩
  rw [State.updateOp_voice, Voice.setOp_op_other _ _ _ _ hj]

/-- An accepted write to operator `i` (R282). -/
theorem checked_updateOp_of_le {max : Nat} {v : BitVec 32} (h : v.toNat ≤ max) (i : OpIdx) (f : Operator → Operator)
    (s : State) : ∃ t, checked max v (s.updateOp i f) s = .next t ∧ OnlyOp i (f (s.voice.op i)) s t :=
  ⟨_, checked_of_le h, onlyOp_updateOp i f s⟩

/-- `SUSEN` takes bit 0 (R291), which is the whole value within the bound. -/
theorem getLsbD_zero_eq_decide {v : BitVec 32} (h : v.toNat ≤ 1) : v.getLsbD 0 = decide (v.toNat = 1) := by
  rw [BitVec.getLsbD, Nat.testBit_zero]
  congr 1
  simp only [eq_iff_iff]
  omega

/-- Settles O19: each of the five opcodes by its register number, and each write by the frame of `updateOp`. -/
theorem wrWideRegisters : Obligations.WrWideRegisters := fun i v s =>
  ⟨⟨decode_wr i 3 v, _, rfl, onlyOp_updateOp i _ s⟩, ⟨decode_wr i 4 v, _, rfl, onlyOp_updateOp i _ s⟩,
    ⟨decode_wr i 5 v, _, rfl, onlyOp_updateOp i _ s⟩, ⟨decode_wr i 6 v, _, rfl, onlyOp_updateOp i _ s⟩,
    ⟨decode_wr i 7 v, _, rfl, onlyOp_updateOp i _ s⟩⟩

/-- Settles O18: the five writes are bounded writes of an operator, and the value written is the operand itself. -/
theorem wrNarrowRegisters : Obligations.WrNarrowRegisters := by
  intro i v s
  simp only [← lowBits_eq_setWidth]
  refine ⟨⟨decode_wr i 0 v, checked_of_lt, fun h => ?_⟩, ⟨decode_wr i 1 v, checked_of_lt, fun h => ?_⟩,
    ⟨decode_wr i 2 v, checked_of_lt, fun h => ?_⟩, ⟨decode_wr i 8 v, checked_of_lt, fun h => ?_⟩,
    ⟨decode_wr i 9 v, checked_of_lt, fun h => ?_⟩⟩
  · exact ⟨_, _, checked_of_le h, Shape.code_ofCode _, onlyOp_updateOp i _ s⟩
  · exact checked_updateOp_of_le h i _ s
  · exact checked_updateOp_of_le h i _ s
  · rw [← getLsbD_zero_eq_decide h]
    exact checked_updateOp_of_le h i _ s
  · exact checked_updateOp_of_le h i _ s

end Sys2Proof.Machine
end

section
/-! What the flags of `ERR` can become (R28, R302, R304): an instruction with a legal operand keeps them, and any other
one is `reject(BADVAL)`. -/

namespace Sys2Proof.Machine

open Sys2Proof.Safety

/-- The instruction has a legal operand and keeps `ERR`, or it is rejected. -/
def KeepsErrOrRejected (i : Instr) (s t : State) : Prop :=
  (i.WellFormed = true ∧ t.voice.err = s.voice.err) ∨ (i.WellFormed = false ∧ t = s.reject .badval)

/-- A bounded write whose accepted form keeps `ERR`. -/
theorem checked_keepsErrOrRejected {i : Instr} {max : Nat} {data : BitVec 32} {accepted s t : State}
    (hwf : i.WellFormed = decide (data.toNat ≤ max)) (hacc : accepted.voice.err = s.voice.err)
    (h : checked max data accepted s = .next t) : KeepsErrOrRejected i s t := by
  rw [checked_next] at h
  cases h
  rw [KeepsErrOrRejected, hwf]
  split
  · next hle => exact .inl ⟨decide_eq_true hle, hacc⟩
  · next hgt => exact .inr ⟨decide_eq_false hgt, rfl⟩

theorem exec_keepsErrOrRejected {i : Instr} {s t : State} (h : exec i s = .next t) : KeepsErrOrRejected i s t := by
  cases i
  case setAlg n =>
    exact checked_keepsErrOrRejected (accepted := s.setVoice { s.voice with alg := lowBits 3 n }) rfl rfl h
  case wrWave | wrTl | wrFbl | wrSusen | wrDiv => exact checked_keepsErrOrRejected rfl (by simp) h
  -- The operands of the others have no bound.
  all_goals
    cases h
    refine .inl ⟨rfl, ?_⟩
  case tick => exact (tick_alg_err _ _).2
  case wrTune | wrAr | wrDr | wrRr | wrSl => simp
  all_goals rfl

/-- Settles O5: the six bounded writes above their bounds, and what any instruction can do to `ERR`. -/
theorem outOfRangeSetsBadval : Obligations.OutOfRangeSetsBadval := by
  refine ⟨fun s i v => ⟨checked_of_lt, checked_of_lt, checked_of_lt, checked_of_lt, checked_of_lt, checked_of_lt⟩,
    fun i s t hwf h => ?_⟩
  obtain ⟨-, herr⟩ | ⟨hill, -⟩ := exec_keepsErrOrRejected h
  · exact herr
  · simp [hwf] at hill

theorem or_raiseErr (cause : RejectCause) (err : BitVec 2) : err ||| raiseErr cause err = raiseErr cause err := by
  rw [raiseErr, ← BitVec.or_assoc, BitVec.or_self]

/-- Settles O6, by what a step can do: `ERR` stays as it is, or one bit is set in it. -/
theorem errIsSticky : Obligations.ErrIsSticky := by
  intro s t hn h
  obtain ⟨-, rfl⟩ | ⟨rest, hin, -⟩ | ⟨w, rest, i, -, -, hex⟩ | ⟨w, rest, r, -, -, -, rfl⟩ := step_cases h
  · exact BitVec.or_self
  · exact absurd (by rw [hin]; rfl) hn
  · obtain ⟨-, herr⟩ | ⟨-, rfl⟩ := exec_keepsErrOrRejected hex
    · rw [herr]
      exact BitVec.or_self
    · exact or_raiseErr _ _
  · exact or_raiseErr _ _

end Sys2Proof.Machine
end

section
/-! TICKs from reset (R334). At total level 0 nothing but 0 reaches the scratch registers, and an operator at rest only
advances its accumulator, by 1 at pitch and tuning 0. -/

namespace Sys2Proof.Machine

open Sys2Proof.Safety

/-- Outputs of 0 leave the scratch registers at 0, whatever their sinks (R257). -/
theorem scratchAfter_sunkOutputs_zero (word : U16) (is : List OpIdx) :
    scratchAfter (sunkOutputs word (fun _ => 0) is) = (0, 0) := by
  induction is with
  | nil => rfl
  | cons i is ih =>
    rw [scratchAfter, sunkOutputs, List.map_cons, List.foldl_cons]
    cases (routeRule word i).snk
    all_goals exact ih

theorem readScratch_zero (sel : RouteSel) : readScratch sel (0, 0) = 0 := by cases sel <;> rfl

/-- The operators of the voice are at total level 0. -/
def Muted (v : Voice) : Prop := ∀ i, (v.op i).tl = 0

section
variable (c : Config) {v : Voice} (h : Muted v)
include h

theorem Muted.tickOutput_eq_zero : tickOutput c v = fun _ => 0 := by
  funext i
  have htl : ((voiceAtTurn c v i).modulated c i).tl = 0 := by
    rw [modulated_eq, voiceAtTurn_op]
    exact h i
  exact (silenceGuarantee c _ (.inl htl)).1

theorem Muted.tick_scratch_eq_zero : ((tick c v).out, (tick c v).adr) = (0, 0) := by
  rw [tick_scratch, h.tickOutput_eq_zero]
  exact scratchAfter_sunkOutputs_zero _ _

theorem Muted.tick_smp_eq_zero : (tick c v).smp = 0 := by
  rw [tick_smp, h.tick_scratch_eq_zero, readScratch_zero]

/-- No operator is modulated. -/
theorem Muted.tick_op (i : OpIdx) : (tick c v).op i = (opSample c { v.op i with modin := 0 }).1 := by
  have hmod : routedModulation (c.algRom v.alg) (tickOutput c v) i = 0 := by
    rw [routedModulation, h.tickOutput_eq_zero, scratchAfter_sunkOutputs_zero, readScratch_zero]
  rw [← hmod]
  exact congrArg Prod.fst (tick_op_eq_opSample c v i)

end

/-- OP.SAMPLE at total level 0: the generators advance, and the feedback is 0 (R240, R242). -/
theorem opSample_of_tl_eq_zero (c : Config) {o : Operator} (h : o.tl = 0) :
    (opSample c o).1 = { o with pg := phaseAdvance c o.pg, eg := envAdvance c o.eg, fb := 0 } := by
  rw [← (silenceGuarantee c o (.inl h)).2]
  rfl

/-- The registers of an operator at reset, but for `ACC`. -/
def restingOperator (acc : U16) : Operator :=
  { Operator.reset with pg := { PhaseGen.reset with acc := acc } }

/-- The voice at reset, but for the four `ACC`. -/
def restingVoice (acc : U16) : Voice := Voice.reset.mapOps fun _ => restingOperator acc

@[simp] theorem restingVoice_op (acc : U16) (i : OpIdx) : (restingVoice acc).op i = restingOperator acc :=
  Voice.mapOps_op _ _ i

theorem restingVoice_zero : restingVoice 0 = Voice.reset := rfl

theorem restingVoice_muted (acc : U16) : Muted (restingVoice acc) := fun i => by
  rw [restingVoice_op]
  rfl

/-- EXP2(-LOG2_FS) is one step of the accumulator: 1 Hz at 48 kHz is 65536 / 48000, floored (R171, R334). -/
theorem phaseIncrement_reset : phaseIncrement Config.reference PhaseGen.reset = 1 := by decide +kernel

theorem phaseAdvance_resting (acc : U16) :
    phaseAdvance Config.reference { PhaseGen.reset with acc := acc } = { PhaseGen.reset with acc := acc + 1 } := by
  have hinc : phaseIncrement Config.reference { PhaseGen.reset with acc := acc } = 1 := phaseIncrement_reset
  have hacc : phaseAdd acc 1 = acc + 1 := BitVec.eq_of_toNat_eq (phaseAdd_toNat acc 1)
  rw [phaseAdvance, hinc, hacc]

/-- An envelope in Idle with `DIV` = 0 updates at every call, which changes nothing (R190, R195). -/
theorem envAdvance_reset : envAdvance Config.reference EnvGen.reset = EnvGen.reset := rfl

theorem opSample_resting (acc : U16) :
    (opSample Config.reference (restingOperator acc)).1 = restingOperator (acc + 1) := by
  rw [opSample_of_tl_eq_zero _ rfl]
  show { restingOperator acc with
    pg := phaseAdvance Config.reference { PhaseGen.reset with acc := acc }
    eg := envAdvance Config.reference EnvGen.reset, fb := 0 } = _
  rw [phaseAdvance_resting, envAdvance_reset]
  rfl

theorem tick_restingVoice (acc : U16) : tick Config.reference (restingVoice acc) = restingVoice (acc + 1) := by
  have hmuted := restingVoice_muted acc
  obtain ⟨halg, herr⟩ := tick_alg_err Config.reference (restingVoice acc)
  obtain ⟨hout, hadr⟩ := Prod.mk.inj (hmuted.tick_scratch_eq_zero Config.reference)
  refine Voice.ext_op halg hout hadr (hmuted.tick_smp_eq_zero _) herr fun i => ?_
  rw [hmuted.tick_op, restingVoice_op, restingVoice_op]
  exact opSample_resting acc

theorem tick_iterate_reset (n : Nat) :
    (tick Config.reference)^[n] Voice.reset = restingVoice (BitVec.ofNat 16 n) := by
  induction n with
  | zero => exact restingVoice_zero.symm
  | succ n ih =>
    rw [Function.iterate_succ_apply', ih, tick_restingVoice, BitVec.ofNat_add]
    rfl

/-- Settles O24: the run iterates TICK on the voice at reset. -/
theorem ticksFromReset : Obligations.TicksFromReset := by
  intro n
  obtain ⟨t, hrun, hvoice⟩ := core_run_ticks n
    (s := { State.reset with inputs := List.replicate n (.present (.host 0x0100000000)) }) rfl
  have hrest : t.voice = restingVoice (BitVec.ofNat 16 n) := hvoice.trans (tick_iterate_reset n)
  refine ⟨t, hrun, ?_⟩
  rw [hrest]
  refine ⟨rfl, rfl, rfl, rfl, rfl, fun i => ?_⟩
  rw [restingVoice_op, State.reset, Voice.reset_op]
  rfl

end Sys2Proof.Machine
end
